-- ==== Sys2Proof/Word.lean ====
section
/-!
DEFINITION. The bit-vector types of the cexc CRC unit: what crosses its ports and what its registers store.
Values are unsigned numbers, bit 0 least significant (00_scope.md R9).
-/

namespace Sys2Proof

/-- An 8-bit field: an opcode, a response status, a table index, `P_BITS`, `T_BITS`, `ERR`. -/
abbrev Byte := BitVec 8

/-- A 64-bit stored value: the wide registers, a table entry, an operand, response data (00_scope.md R7). -/
abbrev Word := BitVec 64

/-- One bit of storage: `P_REFL`, `T_REFL`. -/
abbrev Bit := BitVec 1

/-- A command word `cw` of the command port, 72 bits (30_encoding.md R70, R71). -/
abbrev CmdWord := BitVec 72

/-- A response word `rsp` of the response port, 72 bits (30_encoding.md R70, R71). -/
abbrev RspWord := BitVec 72

end Sys2Proof
end

