-- ==== Sys2Proof/Syntax.lean ====
section
/-!
DEFINITION. The 26 commands of the cexc-CRC command set, revision 1 (30_encoding.md R74), with their operand
fields at the width their format gives them (R73), so that no command with an operand outside its format can be
written. The opcode map R74 is one list of rows, from which the legality of a word and the assembler read.
-/

namespace Sys2Proof

/-- The four operand formats (30_encoding.md R73). -/
inductive Format where
  /-- no operand: `operand = 0` -/
  | N
  /-- `v = operand[63:0]`, no constraint -/
  | V
  /-- `b = operand[7:0]`, with `operand[63:8] = 0` -/
  | B
  /-- `f = operand[0]`, with `operand[63:1] = 0` -/
  | F
  deriving DecidableEq, Repr

/-- A command with its operand fields: one constructor per row of the opcode map (30_encoding.md R74). -/
inductive Instr where
  | nop
  | build
  | mkeng
  | start
  | byte (v : Word)
  | finish
  | rdtab (b : Byte)
  | wrbits (b : Byte)
  | wrpoly (v : Word)
  | wrinit (v : Word)
  | wrxor (v : Word)
  | wrrefl (f : Bit)
  | rdbits
  | rdpoly
  | rdinit
  | rdxor
  | rdrefl
  | rdstat
  | rdtbits
  | rdtpoly
  | rdtrefl
  | rdeinit
  | rdexor
  | rdmask
  | rdshift
  | rdacc
  deriving DecidableEq, Repr

/-- One row of the opcode map: opcode, mnemonic, operand format. -/
structure OpcodeRow where
  opcode   : Byte
  mnemonic : String
  format   : Format
  deriving DecidableEq, Repr

/-- The control commands, class 0x0 (30_encoding.md R72, R74). -/
def controlRows : List OpcodeRow :=
  [⟨0x00, "NOP", .N⟩, ⟨0x01, "BUILD", .N⟩, ⟨0x02, "MKENG", .N⟩, ⟨0x03, "START", .N⟩,
   ⟨0x04, "BYTE", .V⟩, ⟨0x05, "FINISH", .N⟩, ⟨0x06, "RDTAB", .B⟩]

/-- The parameter writes, class 0x1 (30_encoding.md R72, R74). -/
def parameterRows : List OpcodeRow :=
  [⟨0x10, "WRBITS", .B⟩, ⟨0x11, "WRPOLY", .V⟩, ⟨0x12, "WRINIT", .V⟩, ⟨0x13, "WRXOR", .V⟩,
   ⟨0x14, "WRREFL", .F⟩]

/-- The read-back commands, class 0x2 (30_encoding.md R72, R74). -/
def readbackRows : List OpcodeRow :=
  [⟨0x20, "RDBITS", .N⟩, ⟨0x21, "RDPOLY", .N⟩, ⟨0x22, "RDINIT", .N⟩, ⟨0x23, "RDXOR", .N⟩,
   ⟨0x24, "RDREFL", .N⟩, ⟨0x25, "RDSTAT", .N⟩, ⟨0x26, "RDTBITS", .N⟩, ⟨0x27, "RDTPOLY", .N⟩,
   ⟨0x28, "RDTREFL", .N⟩, ⟨0x29, "RDEINIT", .N⟩, ⟨0x2A, "RDEXOR", .N⟩, ⟨0x2B, "RDMASK", .N⟩,
   ⟨0x2C, "RDSHIFT", .N⟩, ⟨0x2D, "RDACC", .N⟩]

/-- The whole opcode map (30_encoding.md R74). -/
def opcodeRows : List OpcodeRow := controlRows ++ parameterRows ++ readbackRows

end Sys2Proof
end

