-- ==== Sys2Proof/WellFormed.lean ====
section
/-!
DEFINITION. Which command words are well formed: those that match the mask and match pair of some row of the opcode
map (30_encoding.md R74, last paragraph, and R75), and which numbers an assembler takes as an operand (R78).
A term of Instr carries each operand at its format's width, so every Instr is well formed by its type; what can be
ill formed is a word or a written operand, and that is what is checked here, apart from the decoder.
-/

namespace Sys2Proof

/-- The operand bits a format fixes to 0: the low 64 bits of the format's mask (30_encoding.md R74). -/
def Format.operandMask : Format → Word
  | .N => 0xFFFFFFFFFFFFFFFF
  | .V => 0x0000000000000000
  | .B => 0xFFFFFFFFFFFFFF00
  | .F => 0xFFFFFFFFFFFFFFFE

/-- The 72-bit mask of a row: the opcode byte and the operand bits the format fixes. -/
def OpcodeRow.mask (r : OpcodeRow) : CmdWord := (0xFF : Byte) ++ r.format.operandMask

/-- The 72-bit match of a row, `k << 64`. -/
def OpcodeRow.pattern (r : OpcodeRow) : CmdWord := r.opcode ++ (0 : Word)

/-- "A word `cw` spells the command when `cw & mask = match`" (30_encoding.md R74). -/
def OpcodeRow.spells (r : OpcodeRow) (cw : CmdWord) : Bool := cw &&& r.mask == r.pattern

/-- A command word is legal when some row of the opcode map spells it; otherwise it is illegal (R75). -/
def WellFormed (cw : CmdWord) : Bool := opcodeRows.any (·.spells cw)

/-- The first number too large for a format's operand: the assembler refuses "more than 64 bits for `V`, more than
8 for `B`, more than 1 for `F`" (30_encoding.md R78); format `N` has no operand, and its field is 0. -/
def Format.operandBound : Format → Nat
  | .N => 1
  | .V => 2 ^ 64
  | .B => 2 ^ 8
  | .F => 2 ^ 1

/-- A written operand fits its format (30_encoding.md R78). -/
def Format.fits (f : Format) (operand : Nat) : Bool := decide (operand < f.operandBound)

end Sys2Proof
end

