-- ==== Sys2Proof/Decode.lean ====
section
/-!
DEFINITION. The decoder, a total function from the 2^72 command words to the 26 commands or illegal (30_encoding.md
R77), and after it the encoder. The decoder reads the opcode by class and sel (R72) and checks the operand by the
format's constraint (R73); it does not use the mask and match rows of WellFormed.lean, so that the two can be held
against each other.
-/

namespace Sys2Proof

/-- Why a command word is illegal (30_encoding.md R75): (a) or (b). -/
inductive Illegal where
  /-- R75 (a): the opcode is not one of the 26. Raised by `decode`; safe: the spec makes it ILLEGAL_CMD. -/
  | unassigned (opcode : Byte)
  /-- R75 (b): the operand violates the format's constraint. Raised by `decode`; safe: ILLEGAL_CMD. -/
  | operandBreaks (format : Format)
  deriving DecidableEq, Repr

/-- `cw[71:64]`, the opcode (30_encoding.md R71). -/
def opcodeOf (cw : CmdWord) : Byte := cw.extractLsb' 64 8

/-- `cw[63:0]`, the operand (30_encoding.md R71). -/
def operandOf (cw : CmdWord) : Word := cw.extractLsb' 0 64

/-- `class = opcode[7:4]` (30_encoding.md R72). -/
def classOf (cw : CmdWord) : Nat := (opcodeOf cw).toNat / 16

/-- `sel = opcode[3:0]` (30_encoding.md R72). -/
def selOf (cw : CmdWord) : Nat := (opcodeOf cw).toNat % 16

/-- Format `N`: no operand, `operand = 0` (30_encoding.md R73). -/
def takeN (operand : Word) (i : Instr) : Except Illegal Instr :=
  if operand = 0 then .ok i else .error (.operandBreaks .N)

/-- Format `V`: the whole operand (30_encoding.md R73). -/
def takeV (operand : Word) (mk : Word → Instr) : Except Illegal Instr :=
  .ok (mk operand)

/-- Format `B`: `operand[7:0]`, when `operand[63:8] = 0` (30_encoding.md R73). -/
def takeB (operand : Word) (mk : Byte → Instr) : Except Illegal Instr :=
  if operand.extractLsb' 8 56 = 0 then .ok (mk (operand.extractLsb' 0 8)) else .error (.operandBreaks .B)

/-- Format `F`: `operand[0]`, when `operand[63:1] = 0` (30_encoding.md R73). -/
def takeF (operand : Word) (mk : Bit → Instr) : Except Illegal Instr :=
  if operand.extractLsb' 1 63 = 0 then .ok (mk (operand.extractLsb' 0 1)) else .error (.operandBreaks .F)

/-- The control commands, class 0x0: `sel` 0x0 to 0x6 (30_encoding.md R74; `sel` 0x7 to 0xF is illegal, R75). -/
def decodeControl (cw : CmdWord) : Except Illegal Instr :=
  match selOf cw with
  | 0x0 => takeN (operandOf cw) .nop
  | 0x1 => takeN (operandOf cw) .build
  | 0x2 => takeN (operandOf cw) .mkeng
  | 0x3 => takeN (operandOf cw) .start
  | 0x4 => takeV (operandOf cw) .byte
  | 0x5 => takeN (operandOf cw) .finish
  | 0x6 => takeB (operandOf cw) .rdtab
  | _ => .error (.unassigned (opcodeOf cw))

/-- The parameter writes, class 0x1: `sel` 0x0 to 0x4 (30_encoding.md R74; `sel` 0x5 to 0xF is illegal, R75). -/
def decodeParameter (cw : CmdWord) : Except Illegal Instr :=
  match selOf cw with
  | 0x0 => takeB (operandOf cw) .wrbits
  | 0x1 => takeV (operandOf cw) .wrpoly
  | 0x2 => takeV (operandOf cw) .wrinit
  | 0x3 => takeV (operandOf cw) .wrxor
  | 0x4 => takeF (operandOf cw) .wrrefl
  | _ => .error (.unassigned (opcodeOf cw))

/-- The read-back commands, class 0x2: `sel` 0x0 to 0xD (30_encoding.md R74; 0xE and 0xF are illegal, R75). -/
def decodeReadback (cw : CmdWord) : Except Illegal Instr :=
  match selOf cw with
  | 0x0 => takeN (operandOf cw) .rdbits
  | 0x1 => takeN (operandOf cw) .rdpoly
  | 0x2 => takeN (operandOf cw) .rdinit
  | 0x3 => takeN (operandOf cw) .rdxor
  | 0x4 => takeN (operandOf cw) .rdrefl
  | 0x5 => takeN (operandOf cw) .rdstat
  | 0x6 => takeN (operandOf cw) .rdtbits
  | 0x7 => takeN (operandOf cw) .rdtpoly
  | 0x8 => takeN (operandOf cw) .rdtrefl
  | 0x9 => takeN (operandOf cw) .rdeinit
  | 0xA => takeN (operandOf cw) .rdexor
  | 0xB => takeN (operandOf cw) .rdmask
  | 0xC => takeN (operandOf cw) .rdshift
  | 0xD => takeN (operandOf cw) .rdacc
  | _ => .error (.unassigned (opcodeOf cw))

/-- The decoder (30_encoding.md R77): a command with its field values, or why the word is illegal. -/
def decode (cw : CmdWord) : Except Illegal Instr :=
  match classOf cw with
  | 0x0 => decodeControl cw
  | 0x1 => decodeParameter cw
  | 0x2 => decodeReadback cw
  | _ => .error (.unassigned (opcodeOf cw))

/-- The instruction read from a row's word as spec/opcode_table.json numbers its bits. The unit's instruction is ONE
72-bit command word, so its bits are the number's bits (assumption log 10). -/
def decodeTableWord (nbits w : Nat) : Option Instr :=
  if w < 2 ^ nbits ∧ w < 2 ^ 72 then (decode (BitVec.ofNat 72 w)).toOption else none

/-! ### The encoder, from the same rules -/

/-- The opcode of a command (30_encoding.md R74). -/
def opcode : Instr → Byte
  | .nop => 0x00
  | .build => 0x01
  | .mkeng => 0x02
  | .start => 0x03
  | .byte _ => 0x04
  | .finish => 0x05
  | .rdtab _ => 0x06
  | .wrbits _ => 0x10
  | .wrpoly _ => 0x11
  | .wrinit _ => 0x12
  | .wrxor _ => 0x13
  | .wrrefl _ => 0x14
  | .rdbits => 0x20
  | .rdpoly => 0x21
  | .rdinit => 0x22
  | .rdxor => 0x23
  | .rdrefl => 0x24
  | .rdstat => 0x25
  | .rdtbits => 0x26
  | .rdtpoly => 0x27
  | .rdtrefl => 0x28
  | .rdeinit => 0x29
  | .rdexor => 0x2A
  | .rdmask => 0x2B
  | .rdshift => 0x2C
  | .rdacc => 0x2D

/-- The 64-bit operand of a command: its field, the bits above it 0 (30_encoding.md R73). -/
def operand : Instr → Word
  | .byte v => v
  | .rdtab b => b.setWidth 64
  | .wrbits b => b.setWidth 64
  | .wrpoly v => v
  | .wrinit v => v
  | .wrxor v => v
  | .wrrefl f => f.setWidth 64
  | .nop => 0
  | .build => 0
  | .mkeng => 0
  | .start => 0
  | .finish => 0
  | .rdbits => 0
  | .rdpoly => 0
  | .rdinit => 0
  | .rdxor => 0
  | .rdrefl => 0
  | .rdstat => 0
  | .rdtbits => 0
  | .rdtpoly => 0
  | .rdtrefl => 0
  | .rdeinit => 0
  | .rdexor => 0
  | .rdmask => 0
  | .rdshift => 0
  | .rdacc => 0

/-- The command word of a command, `(opcode << 64) | operand` (30_encoding.md R71, R78). -/
def encode (i : Instr) : CmdWord := opcode i ++ operand i

end Sys2Proof
end

