-- ==== Sys2Proof/Config.lean ====
section
/-!
DEFINITION. What an implementation of the unit fixes: the constants of 00_scope.md R6 and R7, and the two
latencies that R8 leaves open. No value the unit computes is left open, so there is no free value.
-/

namespace Sys2Proof

/-- The legal widths `bits` (00_scope.md R6). -/
def Config.legalWidths : List Nat := [8, 16, 32, 64]

/-- The number of entries of the lookup table (00_scope.md R6). -/
def Config.tableEntries : Nat := 256

/-- The number of rounds of one table entry (00_scope.md R6). -/
def Config.rounds : Nat := 8

/-- One less than `T_CMD`. It has no body: 00_scope.md R8 leaves the latency OPEN (assumption log 8). -/
opaque Config.cmdCyclesLessOne : Nat

/-- One less than `T_BUILD`. It has no body: 00_scope.md R8 leaves the latency OPEN (assumption log 8). -/
opaque Config.buildCyclesLessOne : Nat

/-- `T_CMD`, a positive number of cycles from acceptance of any command other than BUILD and MKENG to its
response (00_scope.md R8). -/
def Config.tCmd : Nat := Config.cmdCyclesLessOne + 1

/-- `T_BUILD`, a positive number of cycles from acceptance of BUILD or MKENG to its response (00_scope.md R8). -/
def Config.tBuild : Nat := Config.buildCyclesLessOne + 1

end Sys2Proof
end

