-- ==== Sys2Proof/Machine/Bits.lean ====
section
/-!
DEFINITION. The bit and mask utilities (40_bit_utilities.md), on natural numbers of unbounded size as 00_scope.md R9 and
R10 have it, and the two byte orders of a CRC value (20_memory.md R53).
-/

namespace Sys2Proof.Machine

/-- `mask(bits) = 2^bits − 1` (R101). -/
def mask (bits : Nat) : Nat := 2 ^ bits - 1

/-- `shift(bits) = bits − 8` (R102). -/
def shift (bits : Nat) : Nat := bits - 8

/-- `hi_bit(bits) = 2^(bits−1)` (R103). -/
def hiBit (bits : Nat) : Nat := 2 ^ (bits - 1)

/-- The loop of `reflect` after its rounds `i = 0 .. n−1` (R104). -/
def reflectLoop (v bits : Nat) : Nat → Nat
  | 0 => 0
  | i + 1 =>
    if (v >>> i) &&& 1 = 1 then reflectLoop v bits i ||| (1 <<< (bits - 1 - i)) else reflectLoop v bits i

/-- `reflect(v, bits)`: the bit reversal of `v` within a `bits`-wide field (R104). -/
def reflect (v bits : Nat) : Nat := reflectLoop v bits bits

/-- Byte `k` of `c`, counted from the least significant. -/
def byteOf (c k : Nat) : Nat := (c >>> (8 * k)) &&& 0xFF

/-- `LE(c)` for a CRC of width `bits`: its `bits/8` bytes, least significant first (20_memory.md R53). -/
def leBytes (bits c : Nat) : List Nat := (List.range (bits / 8)).map (byteOf c)

/-- `BE(c)` for a CRC of width `bits`: its `bits/8` bytes, most significant first (20_memory.md R53). -/
def beBytes (bits c : Nat) : List Nat := (leBytes bits c).reverse

end Sys2Proof.Machine
end

