-- ==== Sys2Proof/Machine/State.lean ====
section
/-!
DEFINITION. The state of the unit (10_state.md R20), the reasons a step can stop, and the state after reset (R42).
A component that the spec leaves without a value is absent: R42 "A model gives the unspecified components no value at
all (an option type, absent until the flag that guards them is set), never zero and never an arbitrary number".
-/

namespace Sys2Proof.Machine

/-- The lookup table as (index, entry) cells, the indexes strictly rising and below 256. An index that is not listed
has no value. The unit's memory is addressed by whole 64-bit entries and has no bytes (20_memory.md R50; assumption
log 6). -/
abbrev Memory := List (Nat × Word)

/-- The table is in its one canonical form: indexes strictly rising, all in the table space 0..255 (20_memory.md R50). -/
abbrev Memory.wf (t : Memory) : Prop :=
  (t.map Prod.fst).Pairwise (· < ·) ∧ ∀ c ∈ t, c.1 < 256

/-- One thing the host does at the unit's pins (30_encoding.md R70, 70_reset_and_hazards.md R270). -/
inductive Input where
  /-- a command word is presented and accepted -/
  | cmd (cw : CmdWord)
  /-- `rst` is asserted and released again -/
  | rst
  deriving DecidableEq, Repr

/-- The components that can be without a value (10_state.md R42, 93_implementation_defined.md U8). -/
inductive Guarded where
  | tableEntry (index : Nat)
  | tBits
  | tPoly
  | tRefl
  | eInit
  | eXor
  | acc
  deriving DecidableEq, Repr

/-- Why the unit stops. Both stop only states that no run from reset reaches. -/
inductive Fault where
  /-- A command reads a component that has no value although the flag that guards it is set. Raised by RDTAB, RDTBITS,
  RDTPOLY, RDTREFL, RDMASK, RDSHIFT, RDEINIT, RDEXOR, START, BYTE, FINISH and RDACC. Safe: the spec's own treatment is
  "no value; reading it is a fault" (93_implementation_defined.md U8). -/
  | noValue (what : Guarded)
  /-- `T_BITS` holds a width outside 8, 16, 32, 64 where a function of the width is needed. Raised by BYTE, RDMASK and
  RDSHIFT. Safe: 40_bit_utilities.md R101, R102 and 43_crc_engine.md R170 to R173 define nothing there. -/
  | widthOutsideDomain (bits : Byte)
  deriving DecidableEq, Repr

/-- Why an instruction has no meaning. -/
inductive Refusal where
  /-- An instruction whose arm of `exec` is not written yet. Raised by no arm of this model; safe. -/
  | notModelled (mnemonic : String)
  deriving DecidableEq, Repr

/-- The state of the unit: the sixteen components of 10_state.md R20, then the two sides of its port. -/
structure State where
  /-- `P_BITS`, candidate `bits` (R22) -/
  pBits  : Byte
  /-- `P_POLY`, candidate `polynomial` (R23) -/
  pPoly  : Word
  /-- `P_INIT`, candidate `init_value` (R23) -/
  pInit  : Word
  /-- `P_XOR`, candidate `final_xor_value` (R23) -/
  pXor   : Word
  /-- `P_REFL`, candidate `reflected` (R25) -/
  pRefl  : Bit
  /-- `TABLE[0..255]` (R26) -/
  table  : Memory
  /-- `T_VALID`: TABLE and its tag hold a built table (R27) -/
  tValid : Bool
  /-- `T_BITS`, the `bits` TABLE was built for (R28) -/
  tBits  : Option Byte
  /-- `T_POLY`, the `polynomial` TABLE was built from (R28) -/
  tPoly  : Option Word
  /-- `T_REFL`, the `reflected` flag TABLE was built with (R28) -/
  tRefl  : Option Bit
  /-- `E_VALID`: an engine exists (R30) -/
  eValid : Bool
  /-- `E_INIT`, the engine's `init_value` (R31) -/
  eInit  : Option Word
  /-- `E_XOR`, the engine's `final_xor_value` (R31) -/
  eXor   : Option Word
  /-- `RUN`: a computation is in progress (R35) -/
  run    : Bool
  /-- `ACC`, the running accumulator (R36) -/
  acc    : Option Word
  /-- `ERR`, code of the first reject since reset, or 0 (R37) -/
  err    : Byte
  /-- The model's own: what the host does next, oldest first (assumption log 2). -/
  inputs : List Input
  /-- The model's own: the responses given so far, oldest first (assumption log 3). -/
  rsps   : List RspWord
  deriving DecidableEq, Repr

/-- The state after reset (10_state.md R42, 70_reset_and_hazards.md R271), with nothing presented at the command port
and no response given. -/
def State.reset : State where
  pBits := 0
  pPoly := 0
  pInit := 0
  pXor := 0
  pRefl := 0
  table := []
  tValid := false
  tBits := none
  tPoly := none
  tRefl := none
  eValid := false
  eInit := none
  eXor := none
  run := false
  acc := none
  err := 0
  inputs := []
  rsps := []

end Sys2Proof.Machine
end

