-- ==== Sys2Proof/Machine/Ops.lean ====
section
/-!
DEFINITION. The named operations over the unit's state: how a command ends (a response, 30_encoding.md R71), how it is
rejected (the unit's only exception, 60_exceptions.md R240, R249), the one read of the table memory (00_scope.md R11,
20_memory.md R51) and the one write of it, and each assignment the commands make.
-/

namespace Sys2Proof.Machine

/-! ### Responses -/

/-- A response word: `rsp[71:64]` the status, `rsp[63:0]` the data (30_encoding.md R71). -/
def rspWord (status : Byte) (data : Word) : RspWord := status ++ data

/-- `rsp[71:64]`, the status of a response word (30_encoding.md R71). -/
def rspStatus (rsp : RspWord) : Byte := rsp.extractLsb' 64 8

/-- `rsp[63:0]`, the data of a response word (30_encoding.md R71). -/
def rspData (rsp : RspWord) : Word := rsp.extractLsb' 0 64

/-- `respond(data)`: the response `(0x00, data)` is given (00_scope.md R11). -/
def State.respond (data : Word) (s : State) : State := { s with rsps := s.rsps ++ [rspWord 0x00 data] }

/-! ### The reject -/

/-- The causes of a reject (60_exceptions.md R241 to R247). -/
inductive Reject where
  | illegalCmd
  | invalidConfig
  | invalidByte
  | tableNotBuilt
  | engineNotReady
  | notRunning
  deriving DecidableEq, Repr

/-- The status byte of a reject (60_exceptions.md R241). -/
def rejectCode : Reject → Byte
  | .illegalCmd => 0x01
  | .invalidConfig => 0x02
  | .invalidByte => 0x03
  | .tableNotBuilt => 0x04
  | .engineNotReady => 0x05
  | .notRunning => 0x06

/-- What a reject does: `if R.ERR = 0 then R.ERR <- code`, then the response `(code, 0)`, and nothing else
(60_exceptions.md R249). There is nothing to return to and nothing to restore (R250). -/
def State.reject (why : Reject) (s : State) : State :=
  { s with
    err := if s.err = 0 then rejectCode why else s.err
    rsps := s.rsps ++ [rspWord (rejectCode why) 0] }

/-- The command completes with `respond(data)`, in the state its assignments left. -/
def complete (data : Word) (s : State) : Host.Outcome State Fault Refusal := .next (s.respond data)

/-- `raise Reject(code)`: the command ends with none of its assignments made (00_scope.md R11). -/
def raise (why : Reject) (s : State) : Host.Outcome State Fault Refusal := .next (s.reject why)

/-! ### The table memory -/

/-- `TabRead(i)` (00_scope.md R11): the entry at index `i`, or nothing where it has no value. -/
def tabRead (t : Memory) (i : Nat) : Option Word := (t.find? (·.1 == i)).map Prod.snd

/-- `for d in 0 .. 255: TabWrite(d, f d)`: all 256 entries written in one command (20_memory.md R51). No command writes
fewer, so what the table held before does not remain. -/
def tabWriteAll (f : Nat → Word) : Memory := (List.range 256).map fun d => (d, f d)

/-! ### The assignments of the commands -/

/-- `R.P_BITS <- b` (41_parameters.md R123). -/
def State.setPBits (b : Byte) (s : State) : State := { s with pBits := b }

/-- `R.P_POLY <- v` (41_parameters.md R124). -/
def State.setPPoly (v : Word) (s : State) : State := { s with pPoly := v }

/-- `R.P_INIT <- v` (41_parameters.md R125). -/
def State.setPInit (v : Word) (s : State) : State := { s with pInit := v }

/-- `R.P_XOR <- v` (41_parameters.md R126). -/
def State.setPXor (v : Word) (s : State) : State := { s with pXor := v }

/-- `R.P_REFL <- f` (41_parameters.md R127). -/
def State.setPRefl (f : Bit) (s : State) : State := { s with pRefl := f }

/-- The table `t` and its tag are written, the tag from the staging registers: `R.T_BITS <- R.P_BITS`,
`R.T_POLY <- R.P_POLY`, `R.T_REFL <- R.P_REFL` and `R.T_VALID <- 1` (42_table_builder.md R145). -/
def State.installTable (t : Memory) (s : State) : State :=
  { s with
    table := t
    tValid := true
    tBits := some s.pBits
    tPoly := some s.pPoly
    tRefl := some s.pRefl }

/-- `R.E_INIT <- R.P_INIT`, `R.E_XOR <- R.P_XOR`, `R.E_VALID <- 1` (43_crc_engine.md R178). -/
def State.installEngine (s : State) : State :=
  { s with
    eValid := true
    eInit := some s.pInit
    eXor := some s.pXor }

/-- `R.E_VALID <- 0`; `E_INIT` and `E_XOR` have no value from then on (42_table_builder.md R145, 10_state.md R31,
93_implementation_defined.md U8). -/
def State.endEngine (s : State) : State :=
  { s with
    eValid := false
    eInit := none
    eXor := none }

/-- `R.ACC <- a`, `R.RUN <- 1` (43_crc_engine.md R179). -/
def State.beginRun (a : Word) (s : State) : State := { s with run := true, acc := some a }

/-- `R.ACC <- a` (43_crc_engine.md R180). -/
def State.setAcc (a : Word) (s : State) : State := { s with acc := some a }

/-- `R.RUN <- 0`; `ACC` has no value from then on (43_crc_engine.md R181, 10_state.md R36). -/
def State.endRun (s : State) : State := { s with run := false, acc := none }

/-- The host's remaining inputs. -/
def State.setInputs (l : List Input) (s : State) : State := { s with inputs := l }

/-- `rst`: every component of 10_state.md R42 at its reset value. What the host does next and the responses it has
already been given lie outside the unit and stay (70_reset_and_hazards.md R270; assumption log 5). -/
def State.applyReset (s : State) : State :=
  { State.reset with inputs := s.inputs, rsps := s.rsps }

end Sys2Proof.Machine
end

