-- ==== Sys2Proof/Machine/Operands.lean ====
section
/-!
DEFINITION. How a command comes by its operands: the state preconditions (60_exceptions.md R245 to R248), the reads of
components that can be without a value (10_state.md R27, R31, R36), the value check of BYTE (60_exceptions.md R244),
and the validity predicates that BUILD and MKENG apply to the staging registers (41_parameters.md R120 to R122).
-/

namespace Sys2Proof.Machine

/-! ### Validity -/

/-- `valid_bits(n)`: exactly 8, 16, 32 and 64 (R120). -/
def validBits (n : Nat) : Bool := n == 8 || n == 16 || n == 32 || n == 64

/-- `valid_build(bits, poly)` (R121). -/
def validBuild (bits poly : Nat) : Bool := validBits bits && decide (poly < 2 ^ bits)

/-- `valid_config(bits, poly, init, xor)` (R122). -/
def validConfig (bits poly init xor : Nat) : Bool :=
  validBits bits && decide (poly < 2 ^ bits) && decide (init < 2 ^ bits) && decide (xor < 2 ^ bits)

/-! ### State preconditions and guarded reads -/

/-- The state precondition of a command: with the flag at 0 the command is rejected, whatever its operand is
(60_exceptions.md R245 to R248). -/
def needs (flag : Bool) (why : Reject) (s : State) (go : Host.Outcome State Fault Refusal) :
    Host.Outcome State Fault Refusal :=
  if flag then go else raise why s

/-- A read of a component that can be without a value: where it has none, the read is a fault
(93_implementation_defined.md U8). Its flag is checked before, so no state that a run reaches comes here without one. -/
def withValue {α : Type} (r : Option α) (what : Guarded) (go : α → Host.Outcome State Fault Refusal) :
    Host.Outcome State Fault Refusal :=
  match r with
  | some a => go a
  | none => .fault (.noValue what)

/-- A read of `T_BITS` by a command that computes with the width: the functions of the width are defined for 8, 16, 32
and 64 only (40_bit_utilities.md R101, R102; assumption log 7). -/
def withWidth (s : State) (go : Nat → Host.Outcome State Fault Refusal) : Host.Outcome State Fault Refusal :=
  withValue s.tBits .tBits fun b =>
    if validBits b.toNat then go b.toNat else .fault (.widthOutsideDomain b)

/-- The commands that need a built table (60_exceptions.md R245). -/
def needsTable (s : State) (go : Host.Outcome State Fault Refusal) : Host.Outcome State Fault Refusal :=
  needs s.tValid .tableNotBuilt s go

/-- The commands that need an engine (60_exceptions.md R246). -/
def needsEngine (s : State) (go : Host.Outcome State Fault Refusal) : Host.Outcome State Fault Refusal :=
  needs s.eValid .engineNotReady s go

/-- The commands that need a computation in progress (60_exceptions.md R247). -/
def needsRun (s : State) (go : Host.Outcome State Fault Refusal) : Host.Outcome State Fault Refusal :=
  needs s.run .notRunning s go

/-- The value check of BYTE: `v > 255` is rejected and never masked (60_exceptions.md R244, 43_crc_engine.md R180). -/
def needsByte (v : Nat) (s : State) (go : Host.Outcome State Fault Refusal) : Host.Outcome State Fault Refusal :=
  if v > 255 then raise .invalidByte s else go

end Sys2Proof.Machine
end

