-- ==== Sys2Proof/Machine/TableBuilder.lean ====
section
/-!
DEFINITION. The Table Builder (42_table_builder.md): the two constructions of a table entry, the whole table, and the
commands BUILD and RDTAB. The working register is unbounded, as R140 has it, and masked at the end.
-/

namespace Sys2Proof.Machine

/-- One round applied `n` times. -/
def rounds (round : Nat → Nat) : Nat → Nat → Nat
  | 0, w => w
  | n + 1, w => rounds round n (round w)

/-- One round of the non-reflected construction (R140): the test looks at bit `bits−1` before the shift. -/
def roundNr (bits poly w : Nat) : Nat :=
  if w &&& hiBit bits = 0 then w <<< 1 else (w <<< 1) ^^^ poly

/-- One round of the reflected construction, `rp` the reflected polynomial (R141): the test looks at bit 0 before the
shift. -/
def roundR (rp w : Nat) : Nat :=
  if w &&& 1 = 0 then w >>> 1 else (w >>> 1) ^^^ rp

/-- `tab_entry_nr(bits, poly, d)` (R140). -/
def tabEntryNr (bits poly d : Nat) : Nat :=
  rounds (roundNr bits poly) Config.rounds (d <<< shift bits) &&& mask bits

/-- `tab_entry_r(bits, poly, d)` (R141). -/
def tabEntryR (bits poly d : Nat) : Nat :=
  rounds (roundR (reflect poly bits)) Config.rounds d &&& mask bits

/-- `tab_entry(bits, poly, refl, d)`: the construction is chosen by `refl` only, at every width (R142). -/
def tabEntry (bits poly : Nat) (refl : Bit) (d : Nat) : Nat :=
  if refl = 0 then tabEntryNr bits poly d else tabEntryR bits poly d

/-- `build_table(bits, poly, refl)`: the 256 entries, each stored 64 bits wide (R143, 10_state.md R26). -/
def buildTable (bits poly : Nat) (refl : Bit) : Memory :=
  tabWriteAll fun d => BitVec.ofNat 64 (tabEntry bits poly refl d)

/-- TABLE and its tag are built from the staging registers: the part BUILD and MKENG share (R145, 43_crc_engine.md
R178). -/
def State.buildFromStaging (s : State) : State :=
  s.installTable (buildTable s.pBits.toNat s.pPoly.toNat s.pRefl)

/-- BUILD (R145). It looks at `P_BITS`, `P_POLY` and `P_REFL` only; a successful BUILD ends the engine and the
computation. -/
def execBuild (s : State) : Host.Outcome State Fault Refusal :=
  if validBuild s.pBits.toNat s.pPoly.toNat then complete 0 s.buildFromStaging.endEngine.endRun
  else raise .invalidConfig s

/-- RDTAB `b` (R146). -/
def execRdtab (b : Byte) (s : State) : Host.Outcome State Fault Refusal :=
  needsTable s (withValue (tabRead s.table b.toNat) (.tableEntry b.toNat) fun e => complete e s)

end Sys2Proof.Machine
end

