-- ==== Sys2Proof/Machine/Engine.lean ====
section
/-!
DEFINITION. The CRC Engine (43_crc_engine.md): the update rules, the fold of a byte sequence, `compute`, and the
commands MKENG, START, BYTE and FINISH.
-/

namespace Sys2Proof.Machine

/-! ### The update rules -/

/-- The table index of one update step: `cur ^ byte` at width 8 (R170); `((cur >> shift(bits)) ^ byte) & 0xFF`
non-reflected (R171); `(cur ^ byte) & 0xFF` reflected (R172). Selected by width 8 first, then by `refl` (R173). -/
def updateIndex (bits : Nat) (refl : Bit) (cur byte : Nat) : Nat :=
  if bits = 8 then cur ^^^ byte
  else if refl = 0 then ((cur >>> shift bits) ^^^ byte) &&& 0xFF
  else (cur ^^^ byte) &&& 0xFF

/-- The next accumulator from the entry read: the entry itself at width 8 (R170); `((cur << 8) ^ entry) & mask(bits)`
non-reflected (R171); `((cur >> 8) ^ entry) & mask(bits)` reflected (R172). -/
def updateNext (bits : Nat) (refl : Bit) (cur entry : Nat) : Nat :=
  if bits = 8 then entry
  else if refl = 0 then ((cur <<< 8) ^^^ entry) &&& mask bits
  else ((cur >>> 8) ^^^ entry) &&& mask bits

/-- `update(bits, refl, T, cur, byte)` (R173): exactly one entry of `T` is used. -/
def update (bits : Nat) (refl : Bit) (T : Nat → Nat) (cur byte : Nat) : Nat :=
  updateNext bits refl cur (T (updateIndex bits refl cur byte))

/-! ### The whole computation -/

/-- `fold(bits, refl, T, acc, s)`: a left fold of `update` over `s` in sequence order (R176). -/
def fold (bits : Nat) (refl : Bit) (T : Nat → Nat) : Nat → List Nat → Nat
  | acc, [] => acc
  | acc, b :: bs => fold bits refl T (update bits refl T acc b) bs

/-- `compute(bits, poly, init, xor, refl, s)` (R177), with the table `build_table(bits, poly, refl)` as the function of
its index (42_table_builder.md R143). -/
def compute (bits poly init xor : Nat) (refl : Bit) (s : List Nat) : Nat :=
  fold bits refl (tabEntry bits poly refl) init s ^^^ xor

/-! ### The commands -/

/-- MKENG (R178). A successful MKENG replaces any earlier engine and ends a running computation. -/
def execMkeng (s : State) : Host.Outcome State Fault Refusal :=
  if validConfig s.pBits.toNat s.pPoly.toNat s.pInit.toNat s.pXor.toNat then
    complete 0 s.buildFromStaging.installEngine.endRun
  else raise .invalidConfig s

/-- START (R179). While a computation is in progress it restarts it. -/
def execStart (s : State) : Host.Outcome State Fault Refusal :=
  needsEngine s (withValue s.eInit .eInit fun i => complete 0 (s.beginRun i))

/-- One update step of the accumulator by the byte `v`, through the one table entry it reads (R180). -/
def foldByte (v : Nat) (s : State) : Host.Outcome State Fault Refusal :=
  withValue s.acc .acc fun cur =>
  withWidth s fun bits =>
  withValue s.tRefl .tRefl fun refl =>
  withValue (tabRead s.table (updateIndex bits refl cur.toNat v)) (.tableEntry (updateIndex bits refl cur.toNat v))
    fun entry => complete 0 (s.setAcc (BitVec.ofNat 64 (updateNext bits refl cur.toNat entry.toNat)))

/-- BYTE `v` (R180). NOT_RUNNING is checked before INVALID_BYTE; a rejected BYTE folds nothing. -/
def execByte (v : Word) (s : State) : Host.Outcome State Fault Refusal :=
  needsRun s (needsByte v.toNat s (foldByte v.toNat s))

/-- FINISH (R181). The CRC is in the response only; afterwards `ACC` has no value. -/
def execFinish (s : State) : Host.Outcome State Fault Refusal :=
  needsRun s (withValue s.acc .acc fun a => withValue s.eXor .eXor fun x => complete (a ^^^ x) s.endRun)

end Sys2Proof.Machine
end

