-- ==== Sys2Proof/Machine/Params.lean ====
section
/-!
DEFINITION. The parameter write commands (41_parameters.md R123 to R127). Each stores its operand whole, legal or not,
in every state of the unit; the only reject, ILLEGAL_CMD, is the decoder's (R128).
-/

namespace Sys2Proof.Machine

/-- WRBITS `b` (R123). -/
def execWrbits (b : Byte) (s : State) : Host.Outcome State Fault Refusal := complete 0 (s.setPBits b)

/-- WRPOLY `v` (R124). -/
def execWrpoly (v : Word) (s : State) : Host.Outcome State Fault Refusal := complete 0 (s.setPPoly v)

/-- WRINIT `v` (R125). -/
def execWrinit (v : Word) (s : State) : Host.Outcome State Fault Refusal := complete 0 (s.setPInit v)

/-- WRXOR `v` (R126). -/
def execWrxor (v : Word) (s : State) : Host.Outcome State Fault Refusal := complete 0 (s.setPXor v)

/-- WRREFL `f` (R127). -/
def execWrrefl (f : Bit) (s : State) : Host.Outcome State Fault Refusal := complete 0 (s.setPRefl f)

end Sys2Proof.Machine
end

