-- ==== Sys2Proof/Machine/Flags.lean ====
section
/-!
DEFINITION. The views computed from the flags and the tag (10_state.md R33, R34, R38). The flags themselves are written
by the assignments of Ops.lean; no command has a carry, zero, overflow or sign flag (R38).
-/

namespace Sys2Proof.Machine

/-- A flag as the number 0 or 1. -/
def flagBit (b : Bool) : Nat := if b then 1 else 0

/-- `STATUS = T_VALID | (E_VALID << 1) | (RUN << 2) | (ERR << 8)` (10_state.md R38). -/
def statusView (s : State) : Word :=
  BitVec.ofNat 64
    (flagBit s.tValid ||| (flagBit s.eValid <<< 1) ||| (flagBit s.run <<< 2) ||| (s.err.toNat <<< 8))

/-- `MASK = mask(T_BITS)` in the 64-bit data field (10_state.md R33). -/
def maskView (bits : Nat) : Word := BitVec.ofNat 64 (mask bits)

/-- `SHIFT = shift(T_BITS)`, zero-extended to the data field, whatever `T_REFL` is (10_state.md R34). -/
def shiftView (bits : Nat) : Word := BitVec.ofNat 64 (shift bits)

end Sys2Proof.Machine
end

