-- ==== Sys2Proof/Machine/Readback.lean ====
section
/-!
DEFINITION. NOP and the fourteen read-back commands (44_readback.md R210 to R225). None writes any state: each responds
with one register or view, zero-extended to the data field, or is rejected while what it reads has no value (R211).
-/

namespace Sys2Proof.Machine

/-- NOP (R210). -/
def execNop (s : State) : Host.Outcome State Fault Refusal := complete 0 s

/-- RDBITS (R212). -/
def execRdbits (s : State) : Host.Outcome State Fault Refusal := complete (s.pBits.setWidth 64) s

/-- RDPOLY (R213). -/
def execRdpoly (s : State) : Host.Outcome State Fault Refusal := complete s.pPoly s

/-- RDINIT (R214). -/
def execRdinit (s : State) : Host.Outcome State Fault Refusal := complete s.pInit s

/-- RDXOR (R215). -/
def execRdxor (s : State) : Host.Outcome State Fault Refusal := complete s.pXor s

/-- RDREFL (R216). -/
def execRdrefl (s : State) : Host.Outcome State Fault Refusal := complete (s.pRefl.setWidth 64) s

/-- RDSTAT (R217): never rejected for the state the unit is in. -/
def execRdstat (s : State) : Host.Outcome State Fault Refusal := complete (statusView s) s

/-- RDTBITS (R218). -/
def execRdtbits (s : State) : Host.Outcome State Fault Refusal :=
  needsTable s (withValue s.tBits .tBits fun b => complete (b.setWidth 64) s)

/-- RDTPOLY (R219): in normal bit order, also for a reflected table. -/
def execRdtpoly (s : State) : Host.Outcome State Fault Refusal :=
  needsTable s (withValue s.tPoly .tPoly fun p => complete p s)

/-- RDTREFL (R220). -/
def execRdtrefl (s : State) : Host.Outcome State Fault Refusal :=
  needsTable s (withValue s.tRefl .tRefl fun f => complete (f.setWidth 64) s)

/-- RDEINIT (R221). -/
def execRdeinit (s : State) : Host.Outcome State Fault Refusal :=
  needsEngine s (withValue s.eInit .eInit fun i => complete i s)

/-- RDEXOR (R222). -/
def execRdexor (s : State) : Host.Outcome State Fault Refusal :=
  needsEngine s (withValue s.eXor .eXor fun x => complete x s)

/-- RDMASK (R223). -/
def execRdmask (s : State) : Host.Outcome State Fault Refusal :=
  needsTable s (withWidth s fun bits => complete (maskView bits) s)

/-- RDSHIFT (R224). -/
def execRdshift (s : State) : Host.Outcome State Fault Refusal :=
  needsTable s (withWidth s fun bits => complete (shiftView bits) s)

/-- RDACC (R225): the accumulator before the final XOR. -/
def execRdacc (s : State) : Host.Outcome State Fault Refusal :=
  needsRun s (withValue s.acc .acc fun a => complete a s)

end Sys2Proof.Machine
end

