-- ==== Sys2Proof/Machine/Dispatch.lean ====
section
/-!
DEFINITION. What each command of the opcode map does (30_encoding.md R74): one arm per constructor of Instr, each one
call of that command's meaning.
-/

namespace Sys2Proof.Machine

def exec (i : Instr) (s : State) : Host.Outcome State Fault Refusal :=
  match i with
  | .nop => Sys2Proof.Machine.execNop s
  | .build => Sys2Proof.Machine.execBuild s
  | .mkeng => Sys2Proof.Machine.execMkeng s
  | .start => Sys2Proof.Machine.execStart s
  | .byte v => Sys2Proof.Machine.execByte v s
  | .finish => Sys2Proof.Machine.execFinish s
  | .rdtab b => Sys2Proof.Machine.execRdtab b s
  | .wrbits b => Sys2Proof.Machine.execWrbits b s
  | .wrpoly v => Sys2Proof.Machine.execWrpoly v s
  | .wrinit v => Sys2Proof.Machine.execWrinit v s
  | .wrxor v => Sys2Proof.Machine.execWrxor v s
  | .wrrefl f => Sys2Proof.Machine.execWrrefl f s
  | .rdbits => Sys2Proof.Machine.execRdbits s
  | .rdpoly => Sys2Proof.Machine.execRdpoly s
  | .rdinit => Sys2Proof.Machine.execRdinit s
  | .rdxor => Sys2Proof.Machine.execRdxor s
  | .rdrefl => Sys2Proof.Machine.execRdrefl s
  | .rdstat => Sys2Proof.Machine.execRdstat s
  | .rdtbits => Sys2Proof.Machine.execRdtbits s
  | .rdtpoly => Sys2Proof.Machine.execRdtpoly s
  | .rdtrefl => Sys2Proof.Machine.execRdtrefl s
  | .rdeinit => Sys2Proof.Machine.execRdeinit s
  | .rdexor => Sys2Proof.Machine.execRdexor s
  | .rdmask => Sys2Proof.Machine.execRdmask s
  | .rdshift => Sys2Proof.Machine.execRdshift s
  | .rdacc => Sys2Proof.Machine.execRdacc s

end Sys2Proof.Machine
end

