-- ==== Sys2Proof/Machine/Port.lean ====
section
/-!
DEFINITION. The unit at its port, one input at a time (30_encoding.md R70, 20_memory.md R58): the function from (state,
command word) to (state, response word), the reset event (70_reset_and_hazards.md R270), and how a command word is put
where the unit takes its next one.
-/

namespace Sys2Proof.Machine

/-- One command word, executed to completion: a word that does not decode is rejected with ILLEGAL_CMD, and nothing
else is looked at (60_exceptions.md R242, R248). -/
def runWord (cw : CmdWord) (s : State) : Host.Outcome State Fault Refusal :=
  match decode cw with
  | .ok i => exec i s
  | .error _ => raise .illegalCmd s

/-- The unit takes the host's next input. With none it is idle and all state is retained (60_exceptions.md R258). -/
def advance (s : State) : Host.Outcome State Fault Refusal :=
  match s.inputs with
  | [] => .next s
  | .cmd cw :: rest => runWord cw (s.setInputs rest)
  | .rst :: rest => .next (s.setInputs rest).applyReset

/-- The host presents the 72-bit command word `w` next, before whatever it was going to present (assumption log 11). -/
def presentWord (s : State) (w : Nat) : State := s.setInputs (.cmd (BitVec.ofNat 72 w) :: s.inputs)

/-- The bits of an instruction of which the opcode table gives `nbits`: those above are 0. -/
def tableBits (nbits w : Nat) : Nat := w % 2 ^ nbits

end Sys2Proof.Machine
end

