-- ==== Sys2Proof/Machine/Step.lean ====
section
/-!
DEFINITION. One step of the unit: it takes the host's next input and executes it to completion.
-/

namespace Sys2Proof.Machine

/-- One step (30_encoding.md R70: the function from (state, `cw`) to (state, `rsp`); assumption log 2 to 5). -/
def step (s : State) : Host.Outcome State Fault Refusal := advance s

/-- `s` with the command word of an opcode-table row presented next. -/
def State.withFetchWord (s : State) (nbits w : Nat) : State := presentWord s (tableBits nbits w)

end Sys2Proof.Machine
end

