-- ==== Sys2Proof/Machine/Handshake.lean ====
section
/-!
DEFINITION. The port at the level of clock cycles (30_encoding.md R70, 70_reset_and_hazards.md R270): the valid and
ready handshake, the two open latencies (00_scope.md R8) and synchronous reset. The step of the unit does not use it:
"the handshake carries no other information and a model may omit it" (R70). It shows when a response comes; what the
response is stays `runWord` (assumption log 8).
-/

namespace Sys2Proof.Machine

/-- The input signals in one cycle. -/
structure Pins where
  rst      : Bool
  cmdValid : Bool
  cmd      : CmdWord
  deriving DecidableEq, Repr

/-- Where the port stands: ready for a command, or executing one with `left` cycles to go before the cycle in which
its response is valid. -/
inductive Phase where
  | ready
  | busy (cw : CmdWord) (left : Nat)
  deriving DecidableEq, Repr

/-- The unit with its port. -/
structure Clocked where
  unit  : State
  phase : Phase
  deriving DecidableEq, Repr

/-- Cycles from acceptance to response: `T_BUILD` for BUILD and MKENG, `T_CMD` for any other command word
(00_scope.md R8). -/
def latency (cw : CmdWord) : Nat :=
  match decode cw with
  | .ok .build => Config.tBuild
  | .ok .mkeng => Config.tBuild
  | _ => Config.tCmd

/-- `cmd_ready`: 0 while `rst = 1`, and from acceptance until the cycle after `rsp_valid = 1` (R70, R270). -/
def cmdReady (c : Clocked) (p : Pins) : Bool := !p.rst && decide (c.phase = .ready)

/-- `rsp_valid`: 1 for exactly one cycle per accepted command; 0 while `rst = 1` (R70, R270). -/
def rspValid (c : Clocked) (p : Pins) : Bool :=
  match c.phase with
  | .busy _ 0 => !p.rst
  | _ => false

/-- `rsp` in the cycle in which `rsp_valid = 1`: the response of the command word that was accepted. -/
def rspSignal (c : Clocked) : Option RspWord :=
  match c.phase with
  | .ready => none
  | .busy cw _ =>
    match runWord cw c.unit with
    | .next t => t.rsps.getLast?
    | .fault _ => none
    | .refused _ => none

/-- One rising edge of `clk`. While `rst = 1` a command in progress is abandoned without a response and the unit is in
its reset state (R270); a command word is accepted when `cmd_valid = 1` and `cmd_ready = 1` (R70); all of a command's
assignments happen together when it completes (00_scope.md R11). -/
def tick (p : Pins) (c : Clocked) : Host.Outcome Clocked Fault Refusal :=
  if p.rst then .next { unit := c.unit.applyReset, phase := .ready }
  else
    match c.phase with
    | .ready =>
      if p.cmdValid then .next { c with phase := .busy p.cmd (latency p.cmd - 1) } else .next c
    | .busy cw (left + 1) => .next { c with phase := .busy cw left }
    | .busy cw 0 =>
      match runWord cw c.unit with
      | .next t => .next { unit := t, phase := .ready }
      | .fault r => .fault r
      | .refused r => .refused r

/-- Rising edges one after another. -/
def ticks : List Pins → Clocked → Host.Outcome Clocked Fault Refusal
  | [], c => .next c
  | p :: ps, c =>
    match tick p c with
    | .next d => ticks ps d
    | .fault r => .fault r
    | .refused r => .refused r

end Sys2Proof.Machine
end

