-- ==== Sys2Proof/Machine/Assembler.lean ====
section
/-!
DEFINITION. How command sequences are written down (30_encoding.md R78 to R80): the assembler of one line, the
pseudo-instructions with their expansions, and the source's three operations as command sequences. It is the host's
side of the port; no step of the unit uses it.
-/

namespace Sys2Proof.Machine

/-! ### Pseudo-instructions (R79) and the source's operations (R80), as commands -/

/-- `CONFIG bits, poly, init, xor, refl` (R79). -/
def configCommands (bits : Byte) (poly init xor : Word) (refl : Bit) : List Instr :=
  [.wrbits bits, .wrpoly poly, .wrinit init, .wrxor xor, .wrrefl refl]

/-- `BYTES b0, …, bn` (R79). -/
def bytesCommands (bs : List Byte) : List Instr := bs.map fun b => .byte (b.setWidth 64)

/-- `COMPUTE b0, …, bn` (R79); the source's `compute(engine, byte_sequence)` (R80). -/
def computeCommands (bs : List Byte) : List Instr := .start :: (bytesCommands bs ++ [.finish])

/-- The source's `build_table(bits, polynomial, reflected)` (R80). -/
def buildTableCommands (bits : Byte) (poly : Word) (refl : Bit) : List Instr :=
  [.wrbits bits, .wrpoly poly, .wrrefl refl, .build]

/-- Reading the whole table back, `RDTAB 0 … RDTAB 255` (R80). -/
def readTableCommands : List Instr := (List.range 256).map fun d => .rdtab (BitVec.ofNat 8 d)

/-- The source's `make_engine(bits, polynomial, init_value, final_xor_value, reflected)` (R80). -/
def makeEngineCommands (bits : Byte) (poly init xor : Word) (refl : Bit) : List Instr :=
  configCommands bits poly init xor refl ++ [.mkeng]

/-! ### The assembler (R78) -/

/-- Why the assembler refuses a line. -/
inductive AsmError where
  /-- the mnemonic is none of the 26 and no pseudo-instruction; safe, no word is made -/
  | unknownMnemonic
  /-- the operand is missing, or one is written where the format has none; safe, no word is made -/
  | operandCount
  /-- the operand is not a decimal number and not `0x` and hexadecimal digits; safe, no word is made -/
  | notANumber
  /-- the operand does not fit its format (R78: the assembler refuses it); safe, no word is made -/
  | doesNotFit
  deriving DecidableEq, Repr

/-- The assembler encodes `MNEMONIC operand` as `(opcode << 64) | operand` and refuses an operand that does not fit
(R78). -/
def assemble (mnemonic : List Char) (operands : List Nat) : Except AsmError CmdWord :=
  match opcodeRows.find? (·.mnemonic.toList == mnemonic) with
  | none => .error .unknownMnemonic
  | some r =>
    match r.format, operands with
    | .N, [] => .ok (r.opcode ++ (0 : Word))
    | .N, _ :: _ => .error .operandCount
    | f, [v] => if f.fits v then .ok (r.opcode ++ BitVec.ofNat 64 v) else .error .doesNotFit
    | _, _ => .error .operandCount

/-- The value of a digit in base 10 or 16. -/
def digitValue (base : Nat) (c : Char) : Option Nat :=
  let n := c.toNat
  let d := if 48 ≤ n ∧ n ≤ 57 then n - 48 else if 65 ≤ n ∧ n ≤ 70 then n - 55
    else if 97 ≤ n ∧ n ≤ 102 then n - 87 else 16
  if d < base then some d else none

/-- The number spelt by a list of digits that follows those worth `acc`. -/
def digits (base acc : Nat) : List Char → Option Nat
  | [] => some acc
  | c :: cs => (digitValue base c).bind fun d => digits base (acc * base + d) cs

/-- "a decimal number or … `0x` and hexadecimal digits" (R78). -/
def parseNumber : List Char → Except AsmError Nat
  | [] => .error .notANumber
  | '0' :: 'x' :: c :: cs => (digits 16 0 (c :: cs)).elim (.error .notANumber) .ok
  | cs => (digits 10 0 cs).elim (.error .notANumber) .ok

/-- The pieces of a line between separators, the empty ones left out. -/
def pieces (isSeparator : Char → Bool) (current : List Char) : List Char → List (List Char)
  | [] => if current = [] then [] else [current]
  | c :: cs =>
    if isSeparator c then
      if current = [] then pieces isSeparator [] cs else current :: pieces isSeparator [] cs
    else pieces isSeparator (current ++ [c]) cs

/-- All the numbers of a list of pieces, or the first refusal. -/
def parseNumbers : List (List Char) → Except AsmError (List Nat)
  | [] => .ok []
  | p :: ps =>
    match parseNumber p, parseNumbers ps with
    | .ok n, .ok ns => .ok (n :: ns)
    | .error e, _ => .error e
    | _, .error e => .error e

/-- All the words of a list of commands, or the first refusal. -/
def assembleAll : List (List Char × List Nat) → Except AsmError (List CmdWord)
  | [] => .ok []
  | (m, vs) :: rest =>
    match assemble m vs, assembleAll rest with
    | .ok w, .ok ws => .ok (w :: ws)
    | .error e, _ => .error e
    | _, .error e => .error e

/-- `BYTE` with each number of a list, in order. -/
def byteLines (vs : List Nat) : List (List Char × List Nat) := vs.map fun v => ("BYTE".toList, [v])

/-- A mnemonic with its operands as plain commands: the pseudo-instructions are expanded (R79). -/
def expand (mnemonic : List Char) (vs : List Nat) : Except AsmError (List (List Char × List Nat)) :=
  if mnemonic = "CONFIG".toList then
    match vs with
    | [bits, poly, init, xor, refl] =>
      .ok [("WRBITS".toList, [bits]), ("WRPOLY".toList, [poly]), ("WRINIT".toList, [init]),
        ("WRXOR".toList, [xor]), ("WRREFL".toList, [refl])]
    | _ => .error .operandCount
  else if mnemonic = "BYTES".toList then
    if vs = [] then .error .operandCount else .ok (byteLines vs)
  else if mnemonic = "COMPUTE".toList then
    .ok (("START".toList, []) :: (byteLines vs ++ [("FINISH".toList, [])]))
  else .ok [(mnemonic, vs)]

/-- The operand text of `STRING "text"`: the characters between two double quotes, as their ASCII codes (R79). A
character outside ASCII has no ASCII code and R79 does not say what becomes of it; the model takes its Unicode code
point (DESIGN CHOICE, assumption log 13). -/
def quoted (rest : List Char) : Except AsmError (List Nat) :=
  match rest.dropWhile (· == ' ') with
  | '"' :: cs =>
    if (cs.dropWhile (· != '"')).all (fun c => c == '"' || c == ' ') && cs.any (· == '"') &&
        (cs.filter (· == '"')).length == 1 then
      .ok ((cs.takeWhile (· != '"')).map Char.toNat)
    else .error .operandCount
  | _ => .error .operandCount

/-- One line of assembler text: a semicolon starts a comment that runs to the end of the line; then a mnemonic in
capitals and its operands (R78, R79; assumption log 12). An empty line assembles to no word. -/
def assembleLine (line : List Char) : Except AsmError (List CmdWord) :=
  let text := (line.takeWhile (· != ';')).dropWhile (· == ' ')
  let mnemonic := text.takeWhile (· != ' ')
  let rest := text.drop mnemonic.length
  if mnemonic = [] then .ok []
  else if mnemonic = "STRING".toList then
    match quoted rest with
    | .ok codes => assembleAll (byteLines codes)
    | .error e => .error e
  else
    match parseNumbers (pieces (fun c => c == ' ' || c == ',') [] rest) with
    | .ok vs =>
      match expand mnemonic vs with
      | .ok commands => assembleAll commands
      | .error e => .error e
    | .error e => .error e

end Sys2Proof.Machine
end

