-- ==== Sys2Proof/Safety.lean ====
section
/-!
DEFINITION. The terms claims are stated in: the invariants of every reachable state (10_state.md R44), runs of several
commands, what a rejected command is, and a computation with other commands between its bytes (43_crc_engine.md R182).
-/

namespace Sys2Proof.Machine

/-- The invariants of every reachable state (10_state.md R44), with the absences of R27, R31 and R36: a component has a
value exactly while the flag that guards it is set. -/
structure State.Inv (s : State) : Prop where
  /-- R44 (a) -/
  run_needs_engine : s.run = true → s.eValid = true
  /-- R44 (b) -/
  engine_needs_table : s.eValid = true → s.tValid = true
  /-- R44 (c), the table invariant R29, and the tag's range R28 -/
  table_built : s.tValid = true → ∃ b p f, s.tBits = some b ∧ s.tPoly = some p ∧ s.tRefl = some f ∧
    validBuild b.toNat p.toNat = true ∧ s.table = buildTable b.toNat p.toNat f
  /-- R27: without a built table there is no table and no tag -/
  table_absent : s.tValid = false → s.tBits = none ∧ s.tPoly = none ∧ s.tRefl = none ∧ s.table = []
  /-- R44 (d), the engine invariant R32 -/
  engine_fits : s.eValid = true → ∃ b i x, s.tBits = some b ∧ s.eInit = some i ∧ s.eXor = some x ∧
    i.toNat < 2 ^ b.toNat ∧ x.toNat < 2 ^ b.toNat
  /-- R31: without an engine `E_INIT` and `E_XOR` have no value -/
  engine_absent : s.eValid = false → s.eInit = none ∧ s.eXor = none
  /-- R44 (e) -/
  acc_fits : s.run = true → ∃ b a, s.tBits = some b ∧ s.acc = some a ∧ a.toNat < 2 ^ b.toNat
  /-- R36: without a computation `ACC` has no value -/
  acc_absent : s.run = false → s.acc = none
  /-- R44 (f) -/
  err_code : s.err.toNat ≤ 6

/-- The command word with opcode `k` and operand `v`, whether or not it is legal (30_encoding.md R71). -/
def wordOf (k : Byte) (v : Word) : CmdWord := k ++ v

/-- `s` after a command that changed nothing and responded OK with `d`. -/
def State.answered (s : State) (d : Word) : State := { s with rsps := s.rsps ++ [rspWord 0x00 d] }

/-- What a read-back command `i` with opcode `k`, guarded by `flag`, does in every state that keeps the invariants: with
a non-zero operand it is an illegal word; with the flag at 0 it is rejected with `why`; with the flag at 1 it completes
with data `d` as `data` says, and changes nothing (44_readback.md R211). -/
def ReadsUnder (k : Byte) (i : Instr) (flag : State → Bool) (why : Reject) (data : State → Word → Prop) : Prop :=
  ∀ s : State, s.Inv →
    (∀ v : Word, v ≠ 0 → runWord (wordOf k v) s = .next (s.reject .illegalCmd)) ∧
    runWord (wordOf k 0) s = exec i s ∧
    (flag s = false → exec i s = .next (s.reject why)) ∧
    (flag s = true → ∃ d, data s d ∧ exec i s = .next (s.answered d))

/-- The table, its tag and `T_VALID` are the same in `s` and `t`. -/
def SameTable (s t : State) : Prop :=
  t.table = s.table ∧ t.tValid = s.tValid ∧ t.tBits = s.tBits ∧ t.tPoly = s.tPoly ∧ t.tRefl = s.tRefl

/-- The five staging registers are the same in `s` and `t`. -/
def SameStaging (s t : State) : Prop :=
  t.pBits = s.pBits ∧ t.pPoly = s.pPoly ∧ t.pInit = s.pInit ∧ t.pXor = s.pXor ∧ t.pRefl = s.pRefl

/-- Every element of a byte sequence is in 0..255. -/
def AllBytes (s : List Nat) : Prop := ∀ b ∈ s, b < 256

/-- Commands one after another, stopping at the first fault or refusal (20_memory.md R58). -/
def execAll : List Instr → State → Host.Outcome State Fault Refusal
  | [], s => .next s
  | i :: is, s =>
    match exec i s with
    | .next t => execAll is t
    | .fault r => .fault r
    | .refused r => .refused r

/-- The class of a command, `opcode[7:4]` (30_encoding.md R72). -/
def commandClass (i : Instr) : Nat := (opcode i).toNat / 16

/-- The commands that read and write nothing but the response: NOP (0x00), RDTAB (0x06) and the RD* commands of class
0x2 (44_readback.md R210, R211, 42_table_builder.md R146). -/
def readsOnly (i : Instr) : Bool := opcode i == 0x00 || opcode i == 0x06 || commandClass i == 2

/-- The commands that 43_crc_engine.md R182 lets stand between the bytes of a computation: RD*, RDTAB, NOP, and the WR*
commands of class 0x1. -/
def bystander (i : Instr) : Bool := readsOnly i || commandClass i == 1

/-- The command word `cw`, executed in `s`, is rejected and leaves `t` (60_exceptions.md R249). -/
def Rejected (cw : CmdWord) (s t : State) : Prop := ∃ why, t = s.reject why ∧ runWord cw s = .next t

/-- From `s` the unit executes one BYTE command per element of `bs`, in order, with any number of WR*, RD*, RDTAB, NOP
and rejected command words before, between and after them, and comes to the last state (43_crc_engine.md R182). -/
inductive Interleaved : List Byte → State → State → Prop where
  | done (s : State) : Interleaved [] s s
  | byte (b : Byte) (bs : List Byte) (s t u : State) :
      runWord (encode (.byte (b.setWidth 64))) s = .next t → Interleaved bs t u → Interleaved (b :: bs) s u
  | between (i : Instr) (bs : List Byte) (s t u : State) :
      bystander i = true → runWord (encode i) s = .next t → Interleaved bs t u → Interleaved bs s u
  | rejected (cw : CmdWord) (bs : List Byte) (s t u : State) :
      Rejected cw s t → Interleaved bs t u → Interleaved bs s u

/-- An engine made from `(bits, poly, init, xor, refl)` exists: the staging values one MKENG sampled (43_crc_engine.md
R178, R182). -/
def HasEngine (bits : Byte) (poly init xor : Word) (refl : Bit) (s : State) : Prop :=
  s.tValid = true ∧ s.eValid = true ∧ s.tBits = some bits ∧ s.tPoly = some poly ∧ s.tRefl = some refl ∧
  s.eInit = some init ∧ s.eXor = some xor ∧ s.table = buildTable bits.toNat poly.toNat refl ∧
  validConfig bits.toNat poly.toNat init.toNat xor.toNat = true

/-! ### Carry-less multiplication, the product of polynomials over GF(2) -/

/-- The product of the polynomial `a`, of which the bits below `n` are looked at, and the polynomial `b`: bit `i` of a
number is the coefficient of `x^i` (42_table_builder.md R144 (e)). -/
def clmul (a b : Nat) : Nat → Nat
  | 0 => 0
  | n + 1 => clmul a b n ^^^ (if a.testBit n then b <<< n else 0)

/-! ### The other forms that rules of the spec compare a function with -/

/-- One round of the non-reflected construction in a register `bits` wide (42_table_builder.md R148; 43_crc_engine.md
R175). -/
def roundNrMasked (bits poly w : Nat) : Nat :=
  if w &&& hiBit bits = 0 then (w <<< 1) &&& mask bits else ((w <<< 1) ^^^ poly) &&& mask bits

/-- The accumulator after dividing one byte bit by bit, non-reflected (43_crc_engine.md R175). -/
def serialNr (bits poly cur byte : Nat) : Nat :=
  rounds (roundNrMasked bits poly) 8 (cur ^^^ (byte <<< shift bits))

/-- The accumulator after dividing one byte bit by bit, reflected (43_crc_engine.md R175). -/
def serialR (bits poly cur byte : Nat) : Nat := rounds (roundR (reflect poly bits)) 8 (cur ^^^ byte)

end Sys2Proof.Machine
end

