-- ==== Sys2Proof/Certificates/Slice0/Obligations.lean ====
section
/-!
DEFINITION. The statements for the provers. Each docstring says which rule of spec/ it formalises; OBLIGATIONS.json
lists them.
-/

open Sys2Proof Sys2Proof.Machine

/-! ### Reset, steps and the invariants -/

/-- 10_state.md R42: every reset value, absent where the spec gives no value; `STATUS = 0`; BUILD and MKENG reject. -/
def Obligations.ResetStateAsGiven : Prop :=
  (State.reset.pBits = 0 ∧ State.reset.pPoly = 0 ∧ State.reset.pInit = 0 ∧ State.reset.pXor = 0 ∧
    State.reset.pRefl = 0) ∧
  (State.reset.tValid = false ∧ State.reset.eValid = false ∧ State.reset.run = false ∧ State.reset.err = 0) ∧
  ((∀ i, tabRead State.reset.table i = none) ∧ State.reset.tBits = none ∧ State.reset.tPoly = none ∧
    State.reset.tRefl = none ∧ State.reset.eInit = none ∧ State.reset.eXor = none ∧ State.reset.acc = none) ∧
  statusView State.reset = 0 ∧
  exec .build State.reset = .next (State.reset.reject .invalidConfig) ∧
  exec .mkeng State.reset = .next (State.reset.reject .invalidConfig)

/-- 10_state.md R44 at the reset state. -/
def Obligations.ResetMeetsInvariants : Prop := State.reset.Inv

/-- 10_state.md R44: every step keeps the invariants, from every state that meets them; so every state that any input
sequence reaches from reset meets them. -/
def Obligations.EveryStepKeepsInvariants : Prop :=
  (∀ s t : State, s.Inv → step s = .next t → t.Inv) ∧
  (∀ (l : List Input) (n : Nat) (t : State),
    Host.Core.run Sys2Proof.core n { State.reset with inputs := l } = .next t → State.Inv t)

/-- 30_encoding.md R70, R71, 60_exceptions.md R241, 70_reset_and_hazards.md R275: no command and no step stops; a command
word is answered by exactly one response word, whose status is 0x00 to 0x06 and whose data is 0 when the status is not
OK. -/
def Obligations.EveryInputIsAnswered : Prop :=
  ∀ s : State, s.Inv →
    (∀ i, ∃ t, exec i s = .next t) ∧
    (∃ t, step s = .next t ∧ t.inputs = s.inputs.tail) ∧
    (∀ cw rest, s.inputs = .cmd cw :: rest →
      ∃ t st d, step s = .next t ∧ t.rsps = s.rsps ++ [rspWord st d] ∧ st.toNat ≤ 6 ∧ (st ≠ 0 → d = 0))

/-- 20_memory.md R58, 30_encoding.md R77: a step whose next input is a command word that decodes is `exec` of that
command, in the state in which the word is no longer waiting; a word that does not decode is rejected there. -/
def Obligations.StepRunsDecodedCommand : Prop :=
  ∀ (s : State) (cw : CmdWord) (rest : List Input), s.inputs = .cmd cw :: rest →
    (∀ i, decode cw = .ok i → step s = exec i { s with inputs := rest }) ∧
    (∀ e, decode cw = .error e → step s = .next (State.reject .illegalCmd { s with inputs := rest }))

/-- 70_reset_and_hazards.md R270, 60_exceptions.md R258: `rst` brings the unit to the reset state without a response;
with nothing presented the unit is idle and all state is retained. That the responses given and the inputs to come
outlive `rst` is the model's choice (assumption log 5). -/
def Obligations.ResetInputAndIdle : Prop :=
  (∀ (s : State) (rest : List Input), s.inputs = .rst :: rest →
    step s = .next { State.reset with inputs := rest, rsps := s.rsps }) ∧
  (∀ s : State, s.inputs = [] → step s = .next s)

/-! ### Decoding -/

/-- 30_encoding.md R71, R74: the decoder gives every command back from its word, with every operand value. -/
def Obligations.DecodeOfEncode : Prop := ∀ i : Instr, decode (encode i) = .ok i

/-- 30_encoding.md R77: every command word decodes to exactly the command it spells by the mask and match of a row of
the opcode map, or is illegal. -/
def Obligations.DecodeIsTheOpcodeMap : Prop :=
  ∀ cw : CmdWord,
    (WellFormed cw = true → ∃ i, decode cw = .ok i ∧ encode i = cw) ∧
    (WellFormed cw = false → ∃ e, decode cw = .error e)

/-- 30_encoding.md R75: a word is illegal exactly when its opcode is none of the 26, or its operand has a bit set that
its format fixes to 0; either way the unit rejects it and nothing changes but `ERR`. -/
def Obligations.IllegalWordsExactly : Prop :=
  ∀ cw : CmdWord,
    ((∃ e, decode cw = .error e) ↔
      ((∀ r ∈ opcodeRows, r.opcode ≠ opcodeOf cw) ∨
       (∃ r ∈ opcodeRows, r.opcode = opcodeOf cw ∧ operandOf cw &&& r.format.operandMask ≠ 0))) ∧
    (∀ e, decode cw = .error e → ∀ s : State, runWord cw s =
      .next { s with
        err := if s.err = 0 then 0x01 else s.err
        rsps := s.rsps ++ [rspWord 0x01 0] })

/-- 60_exceptions.md R242: ILLEGAL_CMD depends on the command word alone: no decoded command answers it in any state,
and the commands that can be mis-encoded are those whose format is not V. -/
def Obligations.IllegalDependsOnTheWordAlone : Prop :=
  (∀ cw, WellFormed cw = false → ∀ s : State, runWord cw s = .next (s.reject .illegalCmd)) ∧
  (∀ i (s t : State), exec i s = .next t → ∀ d, t.rsps ≠ s.rsps ++ [rspWord 0x01 d]) ∧
  (∀ r ∈ opcodeRows, (∃ v, WellFormed (wordOf r.opcode v) = false) ↔ r.format ≠ .V)

/-- 30_encoding.md R74: 26 rows, and no two rows' patterns overlap. -/
def Obligations.NoTwoRowsOverlap : Prop :=
  opcodeRows.length = 26 ∧
  ∀ cw : CmdWord, ∀ r ∈ opcodeRows, ∀ q ∈ opcodeRows, r.spells cw = true → q.spells cw = true → r = q

/-- 30_encoding.md R74, words of 95_test_vectors.md section 2.8: a few words, one or more per family. -/
def Obligations.DecodeOfWrittenWords : Prop :=
  (decode 0x000000000000000000 = .ok .nop) ∧
  (decode 0x010000000000000000 = .ok .build) ∧
  (decode 0x020000000000000000 = .ok .mkeng) ∧
  (decode 0x040000000000000031 = .ok (.byte 0x31)) ∧
  (decode 0x0600000000000000FF = .ok (.rdtab 255)) ∧
  (decode 0x100000000000000040 = .ok (.wrbits 64)) ∧
  (decode 0x11FFFFFFFFFFFFFFFF = .ok (.wrpoly 0xFFFFFFFFFFFFFFFF)) ∧
  (decode 0x140000000000000001 = .ok (.wrrefl 1)) ∧
  (decode 0x2D0000000000000000 = .ok .rdacc) ∧
  (decode 0x070000000000000000 = .error (.unassigned 0x07)) ∧
  (decode 0x140000000000000002 = .error (.operandBreaks .F))

/-- 30_encoding.md R71: the fields of command and response words, and the class and sel of R72. -/
def Obligations.WordLayout : Prop :=
  (∀ k v, opcodeOf (wordOf k v) = k ∧ operandOf (wordOf k v) = v) ∧
  (∀ cw, wordOf (opcodeOf cw) (operandOf cw) = cw) ∧
  (∀ cw, classOf cw = (cw.extractLsb' 68 4).toNat ∧ selOf cw = (cw.extractLsb' 64 4).toNat) ∧
  (∀ st d, rspStatus (rspWord st d) = st ∧ rspData (rspWord st d) = d)

/-! ### The commands: what each does and where it completes -/

/-- 41_parameters.md R123 to R127: the five parameter writes, by command word and as commands. -/
def Obligations.ParameterWrites : Prop :=
  (∀ (s : State) (v : Word), runWord (wordOf 0x10 v) s =
    if v.extractLsb' 8 56 = 0 then exec (.wrbits (v.extractLsb' 0 8)) s else .next (s.reject .illegalCmd)) ∧
  (∀ (s : State) (b : Byte), exec (.wrbits b) s = .next (State.answered { s with pBits := b } 0)) ∧
  (∀ (s : State) (v : Word), runWord (wordOf 0x11 v) s = exec (.wrpoly v) s) ∧
  (∀ (s : State) (v : Word), exec (.wrpoly v) s = .next (State.answered { s with pPoly := v } 0)) ∧
  (∀ (s : State) (v : Word), runWord (wordOf 0x12 v) s = exec (.wrinit v) s) ∧
  (∀ (s : State) (v : Word), exec (.wrinit v) s = .next (State.answered { s with pInit := v } 0)) ∧
  (∀ (s : State) (v : Word), runWord (wordOf 0x13 v) s = exec (.wrxor v) s) ∧
  (∀ (s : State) (v : Word), exec (.wrxor v) s = .next (State.answered { s with pXor := v } 0)) ∧
  (∀ (s : State) (v : Word), runWord (wordOf 0x14 v) s =
    if v.extractLsb' 1 63 = 0 then exec (.wrrefl (v.extractLsb' 0 1)) s else .next (s.reject .illegalCmd)) ∧
  (∀ (s : State) (f : Bit), exec (.wrrefl f) s = .next (State.answered { s with pRefl := f } 0))

/-- 41_parameters.md R128: writes to different registers commute; of two writes to one register the later is what
remains, whatever the earlier was; no state makes a write fail. -/
def Obligations.ParameterWritesCommute : Prop :=
  ∀ (i j : Instr) (s : State), commandClass i = 1 → commandClass j = 1 →
    (opcode i ≠ opcode j → execAll [i, j] s = execAll [j, i] s) ∧
    (∃ t u, exec j s = .next t ∧ t.rsps = s.rsps ++ [rspWord 0x00 0] ∧ execAll [i, j] s = .next u ∧
      (opcode i = opcode j → u = { t with rsps := t.rsps ++ [rspWord 0x00 0] }))

/-- 44_readback.md R210, R212 to R216: NOP and the reads of the staging registers, by command word and as commands. -/
def Obligations.NopAndStagingReads : Prop :=
  (∀ (s : State) (v : Word),
    runWord (wordOf 0x00 v) s = (if v = 0 then exec .nop s else .next (s.reject .illegalCmd)) ∧
    runWord (wordOf 0x20 v) s = (if v = 0 then exec .rdbits s else .next (s.reject .illegalCmd)) ∧
    runWord (wordOf 0x21 v) s = (if v = 0 then exec .rdpoly s else .next (s.reject .illegalCmd)) ∧
    runWord (wordOf 0x22 v) s = (if v = 0 then exec .rdinit s else .next (s.reject .illegalCmd)) ∧
    runWord (wordOf 0x23 v) s = (if v = 0 then exec .rdxor s else .next (s.reject .illegalCmd)) ∧
    runWord (wordOf 0x24 v) s = (if v = 0 then exec .rdrefl s else .next (s.reject .illegalCmd))) ∧
  (∀ s : State,
    exec .nop s = .next (s.answered 0) ∧
    exec .rdbits s = .next (s.answered (s.pBits.setWidth 64)) ∧
    exec .rdpoly s = .next (s.answered s.pPoly) ∧
    exec .rdinit s = .next (s.answered s.pInit) ∧
    exec .rdxor s = .next (s.answered s.pXor) ∧
    exec .rdrefl s = .next (s.answered (s.pRefl.setWidth 64)))

/-- 44_readback.md R217 and 10_state.md R38: RDSTAT completes in every state with the STATUS view, bit by bit; while the
invariants hold, bits 2:0 are 0b000, 0b001, 0b011 or 0b111. -/
def Obligations.StatusRead : Prop :=
  (∀ (s : State) (v : Word),
    runWord (wordOf 0x25 v) s = (if v = 0 then exec .rdstat s else .next (s.reject .illegalCmd))) ∧
  (∀ s : State, ∃ d : Word, exec .rdstat s = .next (s.answered d) ∧
    (∀ j, d.getLsbD j =
      if j = 0 then s.tValid
      else if j = 1 then s.eValid
      else if j = 2 then s.run
      else if j < 8 then false
      else if j < 16 then s.err.getLsbD (j - 8)
      else false) ∧
    (s.Inv → d.toNat % 8 = 0 ∨ d.toNat % 8 = 1 ∨ d.toNat % 8 = 3 ∨ d.toNat % 8 = 7))

/-- 44_readback.md R218, R219, R220: the tag, while a table is built. -/
def Obligations.TagReads : Prop :=
  ReadsUnder 0x26 .rdtbits (·.tValid) .tableNotBuilt
    (fun s d => ∃ b, s.tBits = some b ∧ d = b.setWidth 64 ∧ d ∈ [8, 16, 32, 64]) ∧
  ReadsUnder 0x27 .rdtpoly (·.tValid) .tableNotBuilt (fun s d => s.tPoly = some d) ∧
  ReadsUnder 0x28 .rdtrefl (·.tValid) .tableNotBuilt (fun s d => ∃ f, s.tRefl = some f ∧ d = f.setWidth 64)

/-- 44_readback.md R223, R224: the MASK and SHIFT views, while a table is built, in both reflection modes. -/
def Obligations.ViewReads : Prop :=
  ReadsUnder 0x2B .rdmask (·.tValid) .tableNotBuilt
    (fun s d => ∃ b, s.tBits = some b ∧ d.toNat = 2 ^ b.toNat - 1 ∧
      d ∈ [0xFF, 0xFFFF, 0xFFFFFFFF, 0xFFFFFFFFFFFFFFFF]) ∧
  ReadsUnder 0x2C .rdshift (·.tValid) .tableNotBuilt
    (fun s d => ∃ b, s.tBits = some b ∧ d.toNat + 8 = b.toNat ∧ d ∈ [0, 8, 24, 56])

/-- 44_readback.md R221, R222: the engine registers, while an engine exists. -/
def Obligations.EngineReads : Prop :=
  ReadsUnder 0x29 .rdeinit (·.eValid) .engineNotReady (fun s d => s.eInit = some d) ∧
  ReadsUnder 0x2A .rdexor (·.eValid) .engineNotReady (fun s d => s.eXor = some d)

/-- 44_readback.md R225: the running accumulator, while a computation is in progress. -/
def Obligations.AccumulatorRead : Prop :=
  ReadsUnder 0x2D .rdacc (·.run) .notRunning (fun s d => s.acc = some d)

/-- 42_table_builder.md R146: RDTAB `b`, by command word and as a command. -/
def Obligations.TableEntryRead : Prop :=
  (∀ (s : State) (v : Word), runWord (wordOf 0x06 v) s =
    if v.extractLsb' 8 56 = 0 then exec (.rdtab (v.extractLsb' 0 8)) s else .next (s.reject .illegalCmd)) ∧
  (∀ (s : State) (b : Byte), s.tValid = false → exec (.rdtab b) s = .next (s.reject .tableNotBuilt)) ∧
  (∀ (s : State) (b : Byte), s.Inv → s.tValid = true →
    ∃ bits poly refl d, s.tBits = some bits ∧ s.tPoly = some poly ∧ s.tRefl = some refl ∧
      tabRead s.table b.toNat = some d ∧
      d.toNat = tabEntry bits.toNat poly.toNat refl b.toNat ∧ d.toNat < 2 ^ bits.toNat ∧
      exec (.rdtab b) s = .next (s.answered d))

/-- 42_table_builder.md R145: BUILD, in every state. -/
def Obligations.BuildCommand : Prop :=
  (∀ (s : State) (v : Word),
    runWord (wordOf 0x01 v) s = (if v = 0 then exec .build s else .next (s.reject .illegalCmd))) ∧
  (∀ s : State, s.pBits.toNat ∈ [8, 16, 32, 64] ∧ s.pPoly.toNat < 2 ^ s.pBits.toNat →
    exec .build s = .next
      { s with
        table := buildTable s.pBits.toNat s.pPoly.toNat s.pRefl
        tBits := some s.pBits
        tPoly := some s.pPoly
        tRefl := some s.pRefl
        tValid := true
        eValid := false
        eInit := none
        eXor := none
        run := false
        acc := none
        rsps := s.rsps ++ [rspWord 0x00 0] } ∧
    ∀ d, d < 256 → ∃ e, tabRead (buildTable s.pBits.toNat s.pPoly.toNat s.pRefl) d = some e ∧
      e.toNat = tabEntry s.pBits.toNat s.pPoly.toNat s.pRefl d) ∧
  (∀ s : State, ¬(s.pBits.toNat ∈ [8, 16, 32, 64] ∧ s.pPoly.toNat < 2 ^ s.pBits.toNat) →
    exec .build s = .next (s.reject .invalidConfig))

/-- 43_crc_engine.md R178: MKENG, in every state. -/
def Obligations.MakeEngineCommand : Prop :=
  (∀ (s : State) (v : Word),
    runWord (wordOf 0x02 v) s = (if v = 0 then exec .mkeng s else .next (s.reject .illegalCmd))) ∧
  (∀ s : State, s.pBits.toNat ∈ [8, 16, 32, 64] ∧ s.pPoly.toNat < 2 ^ s.pBits.toNat ∧
      s.pInit.toNat < 2 ^ s.pBits.toNat ∧ s.pXor.toNat < 2 ^ s.pBits.toNat →
    exec .mkeng s = .next
      { s with
        table := buildTable s.pBits.toNat s.pPoly.toNat s.pRefl
        tBits := some s.pBits
        tPoly := some s.pPoly
        tRefl := some s.pRefl
        tValid := true
        eInit := some s.pInit
        eXor := some s.pXor
        eValid := true
        run := false
        acc := none
        rsps := s.rsps ++ [rspWord 0x00 0] } ∧
    ∀ d, d < 256 → ∃ e, tabRead (buildTable s.pBits.toNat s.pPoly.toNat s.pRefl) d = some e ∧
      e.toNat = tabEntry s.pBits.toNat s.pPoly.toNat s.pRefl d) ∧
  (∀ s : State, ¬(s.pBits.toNat ∈ [8, 16, 32, 64] ∧ s.pPoly.toNat < 2 ^ s.pBits.toNat ∧
      s.pInit.toNat < 2 ^ s.pBits.toNat ∧ s.pXor.toNat < 2 ^ s.pBits.toNat) →
    exec .mkeng s = .next (s.reject .invalidConfig))

/-- 43_crc_engine.md R179: START, also while a computation is in progress. -/
def Obligations.StartCommand : Prop :=
  (∀ (s : State) (v : Word),
    runWord (wordOf 0x03 v) s = (if v = 0 then exec .start s else .next (s.reject .illegalCmd))) ∧
  (∀ s : State, s.eValid = false → exec .start s = .next (s.reject .engineNotReady)) ∧
  (∀ s : State, s.Inv → s.eValid = true →
    ∃ i, s.eInit = some i ∧ exec .start s = .next (State.answered { s with acc := some i, run := true } 0))

/-- 43_crc_engine.md R180: BYTE `v`: NOT_RUNNING first, then INVALID_BYTE for `v > 255`, else one update of `ACC`
through the table; every operand decodes. -/
def Obligations.ByteCommand : Prop :=
  (∀ (s : State) (v : Word), runWord (wordOf 0x04 v) s = exec (.byte v) s) ∧
  (∀ (s : State) (v : Word), s.run = false → exec (.byte v) s = .next (s.reject .notRunning)) ∧
  (∀ (s : State) (v : Word), s.run = true → 255 < v.toNat → exec (.byte v) s = .next (s.reject .invalidByte)) ∧
  (∀ (s : State) (v : Word), s.Inv → s.run = true → v.toNat ≤ 255 →
    ∃ bits poly refl a a', s.tBits = some bits ∧ s.tPoly = some poly ∧ s.tRefl = some refl ∧ s.acc = some a ∧
      a'.toNat = update bits.toNat refl (tabEntry bits.toNat poly.toNat refl) a.toNat v.toNat ∧
      a'.toNat < 2 ^ bits.toNat ∧
      exec (.byte v) s = .next (State.answered { s with acc := some a' } 0))

/-- 43_crc_engine.md R181: FINISH: the CRC is in the response only, below `2^T_BITS`, and `ACC` has no value after. -/
def Obligations.FinishCommand : Prop :=
  (∀ (s : State) (v : Word),
    runWord (wordOf 0x05 v) s = (if v = 0 then exec .finish s else .next (s.reject .illegalCmd))) ∧
  (∀ s : State, s.run = false → exec .finish s = .next (s.reject .notRunning)) ∧
  (∀ s : State, s.Inv → s.run = true →
    ∃ bits a x, s.tBits = some bits ∧ s.acc = some a ∧ s.eXor = some x ∧ (a ^^^ x).toNat < 2 ^ bits.toNat ∧
      exec .finish s = .next (State.answered { s with run := false, acc := none } (a ^^^ x)))

/-! ### Rejects and ERR -/

/-- 60_exceptions.md R240, R249: a command either completes with status OK and leaves `ERR`, or is rejected, and then
nothing changes but `ERR` (and the response given). -/
def Obligations.RejectChangesOnlyErr : Prop :=
  (∀ why (s : State), s.reject why =
    { s with
      err := if s.err = 0 then rejectCode why else s.err
      rsps := s.rsps ++ [rspWord (rejectCode why) 0] }) ∧
  (∀ i (s t : State), exec i s = .next t →
    (t.err = s.err ∧ ∃ d, t.rsps = s.rsps ++ [rspWord 0x00 d]) ∨ (∃ why, why ≠ .illegalCmd ∧ t = s.reject why))

/-- 10_state.md R37: what each command word does to `ERR`, and that only reset clears it. -/
def Obligations.ErrKeepsFirstReject : Prop :=
  (∀ (cw : CmdWord) (s t : State), runWord cw s = .next t →
    ∃ st d, t.rsps = s.rsps ++ [rspWord st d] ∧ t.err = if st ≠ 0 ∧ s.err = 0 then st else s.err) ∧
  (∀ s : State, s.applyReset.err = 0) ∧ State.reset.err = 0

/-- 60_exceptions.md R249: `ERR` has no effect on the execution of any command apart from what RDSTAT returns. -/
def Obligations.ErrInfluencesNothing : Prop :=
  ∀ (i : Instr) (s : State) (e : Byte),
    (∀ t, exec i s = .next t → ∃ u, exec i { s with err := e } = .next u ∧
      u = { t with err := u.err, rsps := u.rsps } ∧ (i ≠ .rdstat → u.rsps = t.rsps)) ∧
    (∀ r, exec i s = .fault r → exec i { s with err := e } = .fault r)

/-! ### Frames and whole-machine rules -/

/-- 42_table_builder.md R147: the table and its tag are written by a successful BUILD or MKENG only, all together. -/
def Obligations.TableWrittenWhole : Prop :=
  ∀ (i : Instr) (s t : State), exec i s = .next t →
    (i ≠ .build → i ≠ .mkeng → SameTable s t) ∧
    (∀ why, t = s.reject why → SameTable s t) ∧
    (i = .build ∨ i = .mkeng → SameTable s t ∨
      (t.tValid = true ∧ t.tBits = some s.pBits ∧ t.tPoly = some s.pPoly ∧ t.tRefl = some s.pRefl ∧
        t.table = buildTable s.pBits.toNat s.pPoly.toNat s.pRefl))

/-- 20_memory.md R50: the table memory keeps its canonical form, from every state in which it has it. -/
def Obligations.MemoryStaysCanonical : Prop :=
  Memory.wf State.reset.table ∧
  ∀ s t : State, Memory.wf s.table → step s = .next t → Memory.wf t.table

/-- 10_state.md R21, R24: no command but the WR* commands changes a staging register. -/
def Obligations.StagingWrittenByHostOnly : Prop :=
  ∀ (i : Instr) (s t : State), commandClass i ≠ 1 → exec i s = .next t → SameStaging s t

/-- 44_readback.md R211, R210, 42_table_builder.md R146: NOP, RDTAB and the RD* commands write no state: nothing changes
but the response given, and `ERR` when the command is rejected. Given twice, the second answer is that of the first. -/
def Obligations.ReadsChangeNothing : Prop :=
  ∀ (i : Instr) (s t : State), readsOnly i = true → exec i s = .next t →
    (∃ d, t = s.answered d ∧ exec i t = .next (t.answered d)) ∨
    (∃ why, t = s.reject why ∧ exec i t = .next (t.reject why))

/-- 10_state.md R32: no command changes the table, the tag, `E_INIT` or `E_XOR` and leaves an engine, except MKENG. -/
def Obligations.EngineIsImmutable : Prop :=
  ∀ (i : Instr) (s t : State), i ≠ .mkeng → exec i s = .next t → s.eValid = true → t.eValid = true →
    SameTable s t ∧ t.eInit = s.eInit ∧ t.eXor = s.eXor

/-- 10_state.md R27, R30, R35: which commands set and clear T_VALID, E_VALID and RUN. -/
def Obligations.FlagsChangeOnlyAsStated : Prop :=
  ∀ (i : Instr) (s t : State), exec i s = .next t →
    (s.tValid = true → t.tValid = true) ∧
    (s.tValid = false → t.tValid = true → i = .build ∨ i = .mkeng) ∧
    (s.eValid = false → t.eValid = true → i = .mkeng) ∧
    (s.eValid = true → t.eValid = false → i = .build) ∧
    (s.run = false → t.run = true → i = .start) ∧
    (s.run = true → t.run = false → i = .finish ∨ i = .build ∨ i = .mkeng)

/-! ### Bit utilities and validity -/

/-- 40_bit_utilities.md R101, R102, R103. -/
def Obligations.MaskShiftHighBit : Prop :=
  (∀ v bits, v &&& mask bits = v % 2 ^ bits) ∧
  ([8, 16, 32, 64].map mask = [0xFF, 0xFFFF, 0xFFFFFFFF, 0xFFFFFFFFFFFFFFFF]) ∧
  ([8, 16, 32, 64].map shift = [0, 8, 24, 56]) ∧
  (∀ bits, bits ∈ [8, 16, 32, 64] →
    (∀ v, v < 2 ^ bits → v >>> shift bits < 256) ∧ (∀ d, (d <<< shift bits) >>> shift bits = d)) ∧
  ([8, 16, 32, 64].map hiBit = [0x80, 0x8000, 0x80000000, 0x8000000000000000]) ∧
  (∀ bits w, 1 ≤ bits → (w &&& hiBit bits = 0 ↔ w.testBit (bits - 1) = false))

/-- 40_bit_utilities.md R104: the bit reversal within a `bits`-wide field. -/
def Obligations.ReflectReversesBits : Prop :=
  ∀ v bits : Nat, 1 ≤ bits → v < 2 ^ bits →
    (∀ i, i < bits → (reflect v bits).testBit (bits - 1 - i) = v.testBit i) ∧
    (∀ j, bits ≤ j → (reflect v bits).testBit j = false)

/-- 40_bit_utilities.md R105 (a) to (g) and its worked values. -/
def Obligations.ReflectLaws : Prop :=
  (∀ bits v w : Nat, 1 ≤ bits → v < 2 ^ bits → w < 2 ^ bits →
    reflect (reflect v bits) bits = v ∧
    reflect v bits < 2 ^ bits ∧
    reflect 0 bits = 0 ∧ reflect (mask bits) bits = mask bits ∧
    reflect 1 bits = hiBit bits ∧ reflect (hiBit bits) bits = 1 ∧
    reflect (v ^^^ w) bits = reflect v bits ^^^ reflect w bits ∧
    reflect ((v <<< 1) &&& mask bits) bits = reflect v bits >>> 1 ∧
    reflect (v >>> 1) bits = (reflect v bits <<< 1) &&& mask bits ∧
    (reflect v bits).testBit 0 = v.testBit (bits - 1)) ∧
  reflect 0x07 8 = 0xE0 ∧ reflect 0x8005 16 = 0xA001 ∧ reflect 0x1021 16 = 0x8408 ∧ reflect 0x1234 16 = 0x2C48 ∧
  reflect 0x04C11DB7 32 = 0xEDB88320 ∧ reflect 0x1B 64 = 0xD800000000000000 ∧
  reflect 0x42F0E1EBA9EA3693 64 = 0xC96C5795D7870F42

/-- 41_parameters.md R120, R121, R122. -/
def Obligations.ValidityPredicates : Prop :=
  (∀ n, validBits n = true ↔ n = 8 ∨ n = 16 ∨ n = 32 ∨ n = 64) ∧
  (∀ bits poly, validBuild bits poly = true ↔ validBits bits = true ∧ poly < 2 ^ bits) ∧
  (∀ bits poly init xor, validConfig bits poly init xor = true ↔
    validBits bits = true ∧ poly < 2 ^ bits ∧ init < 2 ^ bits ∧ xor < 2 ^ bits)

/-! ### The table -/

/-- 42_table_builder.md R144 (a), (b), (c), (d), (g). -/
def Obligations.TableProperties : Prop :=
  ∀ (bits poly : Nat) (refl : Bit), validBuild bits poly = true →
    (∀ d, d < 256 → tabEntry bits poly refl d < 2 ^ bits) ∧
    tabEntry bits poly refl 0 = 0 ∧
    (∀ a b, a < 256 → b < 256 →
      tabEntry bits poly refl (a ^^^ b) = tabEntry bits poly refl a ^^^ tabEntry bits poly refl b) ∧
    (refl = 0 → tabEntry bits poly refl 1 = poly) ∧
    (refl = 1 → tabEntry bits poly refl 0x80 = reflect poly bits) ∧
    (poly = 0 → ∀ d, d < 256 → tabEntry bits poly refl d = 0)

/-- 42_table_builder.md R144 (e): a non-reflected entry is the remainder of `d(x) · x^bits` divided by
`x^bits + poly(x)` over GF(2): a multiple of the divisor away, and of lower degree. -/
def Obligations.EntryIsPolynomialRemainder : Prop :=
  ∀ bits poly d : Nat, validBuild bits poly = true → d < 256 →
    tabEntry bits poly 0 d < 2 ^ bits ∧
    ∃ q, q < 256 ∧ d <<< bits = clmul q (2 ^ bits ^^^ poly) 8 ^^^ tabEntry bits poly 0 d

/-- 42_table_builder.md R144 (f): the two constructions are mirror images. -/
def Obligations.ConstructionsMirror : Prop :=
  ∀ bits poly d : Nat, validBuild bits poly = true → d < 256 →
    tabEntryR bits poly d = reflect (tabEntryNr bits poly (reflect d 8)) bits

/-- 42_table_builder.md R148: a working register exactly `bits` wide gives the same entry. -/
def Obligations.BoundedRegisterSameEntry : Prop :=
  ∀ bits poly d : Nat, validBuild bits poly = true → d < 256 →
    rounds (roundNrMasked bits poly) 8 (d <<< shift bits) = tabEntryNr bits poly d

/-! ### The update rules and the computation -/

/-- 43_crc_engine.md R170 to R174: the three rules and their selection, the range of the result, and that at width 8 both
general rules give the width-8 rule. -/
def Obligations.UpdateRules : Prop :=
  ∀ (bits : Nat) (refl : Bit) (T : Nat → Nat) (cur byte : Nat), validBits bits = true →
    (∀ i, i < 256 → T i < 2 ^ bits) → cur < 2 ^ bits → byte < 256 →
    (bits = 8 → update bits refl T cur byte = T (cur ^^^ byte)) ∧
    (bits ≠ 8 → refl = 0 → update bits refl T cur byte =
      ((cur <<< 8) ^^^ T (((cur >>> shift bits) ^^^ byte) &&& 0xFF)) &&& mask bits) ∧
    (bits ≠ 8 → refl = 1 → update bits refl T cur byte =
      ((cur >>> 8) ^^^ T ((cur ^^^ byte) &&& 0xFF)) &&& mask bits) ∧
    update bits refl T cur byte < 2 ^ bits ∧
    (bits = 8 →
      ((cur <<< 8) ^^^ T (((cur >>> shift bits) ^^^ byte) &&& 0xFF)) &&& mask bits = T (cur ^^^ byte) ∧
      ((cur >>> 8) ^^^ T ((cur ^^^ byte) &&& 0xFF)) &&& mask bits = T (cur ^^^ byte))

/-- 43_crc_engine.md R175: the table-driven update is bit-serial division, in both modes and at every width. -/
def Obligations.UpdateIsBitSerialDivision : Prop :=
  ∀ bits poly cur byte : Nat, validBuild bits poly = true → cur < 2 ^ bits → byte < 256 →
    update bits 0 (tabEntry bits poly 0) cur byte = serialNr bits poly cur byte ∧
    update bits 1 (tabEntry bits poly 1) cur byte = serialR bits poly cur byte

/-- 43_crc_engine.md R184: the update is linear over XOR, and what follows for a CRC fed back. -/
def Obligations.UpdateIsLinear : Prop :=
  ∀ (bits poly : Nat) (refl : Bit), validBuild bits poly = true →
    (∀ c c' b b', c < 2 ^ bits → c' < 2 ^ bits → b < 256 → b' < 256 →
      update bits refl (tabEntry bits poly refl) (c ^^^ c') (b ^^^ b') =
        update bits refl (tabEntry bits poly refl) c b ^^^ update bits refl (tabEntry bits poly refl) c' b') ∧
    update bits refl (tabEntry bits poly refl) 0 0 = 0 ∧
    (∀ c, c < 2 ^ bits →
      (refl = 0 → update bits refl (tabEntry bits poly refl) c (c >>> shift bits) = (c <<< 8) &&& mask bits ∧
        fold bits refl (tabEntry bits poly refl) c (beBytes bits c) = 0) ∧
      (refl = 1 → update bits refl (tabEntry bits poly refl) c (c &&& 0xFF) = c >>> 8 ∧
        fold bits refl (tabEntry bits poly refl) c (leBytes bits c) = 0))

/-- 43_crc_engine.md R183 (a), (b): the empty input, and the width of the result. -/
def Obligations.ComputeEmptyAndWidth : Prop :=
  ∀ (bits poly init xor : Nat) (refl : Bit), validConfig bits poly init xor = true →
    compute bits poly init xor refl [] = init ^^^ xor ∧
    ∀ s, AllBytes s → compute bits poly init xor refl s < 2 ^ bits

/-- 43_crc_engine.md R182: a successful MKENG makes the engine of its staging values, and that engine lasts until a BUILD
or MKENG succeeds; with it the commands START, BYTE …, FINISH, with WR*, RD*, RDTAB, NOP and rejected commands between
them, all respond OK; `ACC` is the fold of the bytes so far, and FINISH's data is `compute`. -/
def Obligations.CommandSequenceComputes : Prop :=
  (∀ s t : State, runWord (encode .mkeng) s = .next t → t.rsps = s.rsps ++ [rspWord 0x00 0] →
    HasEngine s.pBits s.pPoly s.pInit s.pXor s.pRefl t) ∧
  ∀ (bits : Byte) (poly init xor : Word) (refl : Bit),
    (∀ (cw : CmdWord) (s t : State), HasEngine bits poly init xor refl s → runWord cw s = .next t →
      ¬((decode cw = .ok .build ∨ decode cw = .ok .mkeng) ∧ t.rsps = s.rsps ++ [rspWord 0x00 0]) →
      HasEngine bits poly init xor refl t) ∧
    ∀ s₀ : State, HasEngine bits poly init xor refl s₀ →
      ∃ s₁, runWord (encode .start) s₀ = .next s₁ ∧ s₁.rsps = s₀.rsps ++ [rspWord 0x00 0] ∧
        ∀ (bs : List Byte) (s₂ : State), Interleaved bs s₁ s₂ →
          (∃ a, s₂.acc = some a ∧ a.toNat = fold bits.toNat refl (tabEntry bits.toNat poly.toNat refl) init.toNat
            (bs.map BitVec.toNat)) ∧
          (∀ b : Byte, ∃ t, runWord (encode (.byte (b.setWidth 64))) s₂ = .next t ∧
            t.rsps = s₂.rsps ++ [rspWord 0x00 0]) ∧
          (∃ t d, runWord (encode .finish) s₂ = .next t ∧ t.rsps = s₂.rsps ++ [rspWord 0x00 d] ∧
            d.toNat = compute bits.toNat poly.toNat init.toNat xor.toNat refl (bs.map BitVec.toNat))

/-- 43_crc_engine.md R185 (a), (b): the check-CRC law where it holds. -/
def Obligations.CheckCrcGivesZero : Prop :=
  ∀ (bits poly init : Nat) (s : List Nat), validConfig bits poly init 0 = true → AllBytes s →
    compute bits poly init 0 0 (s ++ beBytes bits (compute bits poly init 0 0 s)) = 0 ∧
    compute bits poly init 0 1 (s ++ leBytes bits (compute bits poly init 0 1 s)) = 0 ∧
    (bits = 8 → beBytes bits (compute bits poly init 0 1 s) = leBytes bits (compute bits poly init 0 1 s))

/-- 43_crc_engine.md R185 (c), (e): where the law does not hold, by the spec's own numbers. -/
def Obligations.CheckCrcCounterexamples : Prop :=
  compute 16 0x1234 0 0 1 [0x31, 0x32, 0x33, 0x34, 0x35, 0x36, 0x37, 0x38, 0x39] = 0x0F13 ∧
  compute 16 0x1234 0 0 1 [0x31, 0x32, 0x33, 0x34, 0x35, 0x36, 0x37, 0x38, 0x39, 0x0F, 0x13] = 0x0861 ∧
  compute 16 0x1234 0 0 1 [0x31, 0x32, 0x33, 0x34, 0x35, 0x36, 0x37, 0x38, 0x39, 0x13, 0x0F] = 0 ∧
  compute 8 0x07 0 0 0 [0x00, 0x00] = 0 ∧ compute 8 0x07 0 0 0 [0x01, 0x07] = 0

/-- 43_crc_engine.md R186: the residue with a final XOR does not depend on the payload, nor on `init`; its four worked
values. -/
def Obligations.CheckCrcResidue : Prop :=
  (∀ (bits poly init xor : Nat) (s : List Nat), validConfig bits poly init xor = true → AllBytes s →
    compute bits poly init xor 0 (s ++ beBytes bits (compute bits poly init xor 0 s)) =
      compute bits poly 0 0 0 (beBytes bits xor) ^^^ xor ∧
    compute bits poly init xor 1 (s ++ leBytes bits (compute bits poly init xor 1 s)) =
      compute bits poly 0 0 1 (leBytes bits xor) ^^^ xor) ∧
  compute 32 0x04C11DB7 0 0 0 (beBytes 32 0xFFFFFFFF) ^^^ 0xFFFFFFFF = 0x38FB2284 ∧
  compute 32 0x04C11DB7 0 0 1 (leBytes 32 0xFFFFFFFF) ^^^ 0xFFFFFFFF = 0x2144DF1C ∧
  compute 16 0x8005 0 0 1 (leBytes 16 0xFFFF) ^^^ 0xFFFF = 0x4FFE ∧
  compute 64 0x1B 0 0 1 (leBytes 64 0xFFFFFFFFFFFFFFFF) ^^^ 0xFFFFFFFFFFFFFFFF = 0xACFFFFFFFFFFFFFF

/-- 43_crc_engine.md R187: reflection symmetry, exact. -/
def Obligations.ReflectionSymmetry : Prop :=
  ∀ (bits poly init xor : Nat) (s : List Nat), validConfig bits poly init xor = true → AllBytes s →
    compute bits poly init xor 1 s =
      reflect (compute bits poly (reflect init bits) (reflect xor bits) 0 (s.map fun b => reflect b 8)) bits

/-- 95_test_vectors.md section 1.1, K1 to K9: the nine known-answer vectors of the source. -/
def Obligations.KnownAnswerVectors : Prop :=
  compute 8 0x07 0x00 0x00 0 [0x31, 0x32, 0x33, 0x34, 0x35, 0x36, 0x37, 0x38, 0x39] = 0xF4 ∧
  compute 8 0x07 0xFF 0x00 1 [0x31, 0x32, 0x33, 0x34, 0x35, 0x36, 0x37, 0x38, 0x39] = 0xD0 ∧
  compute 16 0x1021 0x1D0F 0x0000 0 [0x31, 0x32, 0x33, 0x34, 0x35, 0x36, 0x37, 0x38, 0x39] = 0xE5CC ∧
  compute 16 0x8005 0xFFFF 0xFFFF 1 [0x31, 0x32, 0x33, 0x34, 0x35, 0x36, 0x37, 0x38, 0x39] = 0xB4C8 ∧
  compute 32 0x04C11DB7 0xFFFFFFFF 0xFFFFFFFF 0 [0x31, 0x32, 0x33, 0x34, 0x35, 0x36, 0x37, 0x38, 0x39]
    = 0xFC891918 ∧
  compute 32 0x04C11DB7 0xFFFFFFFF 0xFFFFFFFF 1 [0x31, 0x32, 0x33, 0x34, 0x35, 0x36, 0x37, 0x38, 0x39]
    = 0xCBF43926 ∧
  compute 64 0x42F0E1EBA9EA3693 0 0 0 [0x31, 0x32, 0x33, 0x34, 0x35, 0x36, 0x37, 0x38, 0x39]
    = 0x6C40DF5F0B497347 ∧
  compute 64 0x1B 0xFFFFFFFFFFFFFFFF 0xFFFFFFFFFFFFFFFF 1 [0x31, 0x32, 0x33, 0x34, 0x35, 0x36, 0x37, 0x38, 0x39]
    = 0xB90956C775A41001 ∧
  compute 16 0x1234 0 0 1 [0x31, 0x32, 0x33, 0x34, 0x35, 0x36, 0x37, 0x38, 0x39] = 0x0F13

/-! ### The port by clock cycles, and the assembler -/

/-- 30_encoding.md R70, 00_scope.md R8: a command word accepted while the port is ready is answered `latency` cycles
after its acceptance, for one cycle, with the response of executing it; until the cycle after that the port is not
ready. How the cycles are counted is read from R70 (assumption log 8). -/
def Obligations.ResponseAfterLatency : Prop :=
  ∀ (c : Clocked) (cw : CmdWord) (t : State) (qs : List Pins) (p : Pins),
    c.phase = .ready → runWord cw c.unit = .next t → (∀ q ∈ qs, q.rst = false) → p.rst = false →
    qs.length < latency cw →
    cmdReady c ⟨false, true, cw⟩ = true ∧
    ∃ d, ticks (⟨false, true, cw⟩ :: qs) c = .next d ∧ d.unit = c.unit ∧ cmdReady d p = false ∧
      rspValid d p = decide (qs.length + 1 = latency cw) ∧
      (qs.length + 1 = latency cw → rspSignal d = t.rsps.getLast? ∧ tick p d = .next ⟨t, .ready⟩ ∧
        cmdReady ⟨t, .ready⟩ p = true ∧ rspValid ⟨t, .ready⟩ p = false)

/-- 70_reset_and_hazards.md R270: while `rst = 1` the port accepts no command and gives no response, whatever was in
progress. That an edge with `rst = 1` leaves the unit in the reset state and ready is the model's reading (assumption
log 9, DEDUCED): R270 fixes the state at the first edge with `rst = 0`, and 93_implementation_defined.md U9 leaves the
state while `rst` is asserted open. That the inputs to come and the responses given stay is the model's choice
(assumption log 5). -/
def Obligations.ResetAbandonsCommand : Prop :=
  ∀ (c : Clocked) (p : Pins), p.rst = true →
    cmdReady c p = false ∧ rspValid c p = false ∧
    tick p c = .next ⟨{ State.reset with inputs := c.unit.inputs, rsps := c.unit.rsps }, .ready⟩

/-- 30_encoding.md R78: the assembler encodes `MNEMONIC operand` as `(opcode << 64) | operand` and refuses an operand that
does not fit the format; what it makes is legal. -/
def Obligations.AssemblerEncodesAndRefuses : Prop :=
  ∀ r ∈ opcodeRows,
    (r.format = .N → assemble r.mnemonic.toList [] = .ok (wordOf r.opcode 0) ∧
      WellFormed (wordOf r.opcode 0) = true ∧ ∀ v vs, assemble r.mnemonic.toList (v :: vs) = .error .operandCount) ∧
    (r.format ≠ .N → ∀ v : Nat,
      (r.format.fits v = true → assemble r.mnemonic.toList [v] = .ok (wordOf r.opcode (BitVec.ofNat 64 v)) ∧
        (wordOf r.opcode (BitVec.ofNat 64 v)).toNat = r.opcode.toNat * 2 ^ 64 + v ∧
        WellFormed (wordOf r.opcode (BitVec.ofNat 64 v)) = true) ∧
      (r.format.fits v = false → assemble r.mnemonic.toList [v] = .error .doesNotFit))
end

