-- ==== Sys2Proof/Laws/State.lean ====
section
/-!
SUPPORT. The small lemmas of State: for each assignment of Machine/Ops.lean, each field after it, so that no later proof
unfolds a record update.
-/

namespace Sys2Proof.Machine

variable (s : State)

/-! `respond` -/

@[simp] theorem State.respond_pBits (d : Word) : (s.respond d).pBits = s.pBits := rfl
@[simp] theorem State.respond_pPoly (d : Word) : (s.respond d).pPoly = s.pPoly := rfl
@[simp] theorem State.respond_pInit (d : Word) : (s.respond d).pInit = s.pInit := rfl
@[simp] theorem State.respond_pXor (d : Word) : (s.respond d).pXor = s.pXor := rfl
@[simp] theorem State.respond_pRefl (d : Word) : (s.respond d).pRefl = s.pRefl := rfl
@[simp] theorem State.respond_table (d : Word) : (s.respond d).table = s.table := rfl
@[simp] theorem State.respond_tValid (d : Word) : (s.respond d).tValid = s.tValid := rfl
@[simp] theorem State.respond_tBits (d : Word) : (s.respond d).tBits = s.tBits := rfl
@[simp] theorem State.respond_tPoly (d : Word) : (s.respond d).tPoly = s.tPoly := rfl
@[simp] theorem State.respond_tRefl (d : Word) : (s.respond d).tRefl = s.tRefl := rfl
@[simp] theorem State.respond_eValid (d : Word) : (s.respond d).eValid = s.eValid := rfl
@[simp] theorem State.respond_eInit (d : Word) : (s.respond d).eInit = s.eInit := rfl
@[simp] theorem State.respond_eXor (d : Word) : (s.respond d).eXor = s.eXor := rfl
@[simp] theorem State.respond_run (d : Word) : (s.respond d).run = s.run := rfl
@[simp] theorem State.respond_acc (d : Word) : (s.respond d).acc = s.acc := rfl
@[simp] theorem State.respond_err (d : Word) : (s.respond d).err = s.err := rfl
@[simp] theorem State.respond_inputs (d : Word) : (s.respond d).inputs = s.inputs := rfl
@[simp] theorem State.respond_rsps (d : Word) : (s.respond d).rsps = s.rsps ++ [rspWord 0x00 d] := rfl

/-! `reject` -/

@[simp] theorem State.reject_pBits (why : Reject) : (s.reject why).pBits = s.pBits := rfl
@[simp] theorem State.reject_pPoly (why : Reject) : (s.reject why).pPoly = s.pPoly := rfl
@[simp] theorem State.reject_pInit (why : Reject) : (s.reject why).pInit = s.pInit := rfl
@[simp] theorem State.reject_pXor (why : Reject) : (s.reject why).pXor = s.pXor := rfl
@[simp] theorem State.reject_pRefl (why : Reject) : (s.reject why).pRefl = s.pRefl := rfl
@[simp] theorem State.reject_table (why : Reject) : (s.reject why).table = s.table := rfl
@[simp] theorem State.reject_tValid (why : Reject) : (s.reject why).tValid = s.tValid := rfl
@[simp] theorem State.reject_tBits (why : Reject) : (s.reject why).tBits = s.tBits := rfl
@[simp] theorem State.reject_tPoly (why : Reject) : (s.reject why).tPoly = s.tPoly := rfl
@[simp] theorem State.reject_tRefl (why : Reject) : (s.reject why).tRefl = s.tRefl := rfl
@[simp] theorem State.reject_eValid (why : Reject) : (s.reject why).eValid = s.eValid := rfl
@[simp] theorem State.reject_eInit (why : Reject) : (s.reject why).eInit = s.eInit := rfl
@[simp] theorem State.reject_eXor (why : Reject) : (s.reject why).eXor = s.eXor := rfl
@[simp] theorem State.reject_run (why : Reject) : (s.reject why).run = s.run := rfl
@[simp] theorem State.reject_acc (why : Reject) : (s.reject why).acc = s.acc := rfl
@[simp] theorem State.reject_err (why : Reject) :
    (s.reject why).err = (if s.err = 0 then rejectCode why else s.err) := rfl
@[simp] theorem State.reject_inputs (why : Reject) : (s.reject why).inputs = s.inputs := rfl
@[simp] theorem State.reject_rsps (why : Reject) : (s.reject why).rsps = s.rsps ++ [rspWord (rejectCode why) 0] := rfl

/-! `setPBits` -/

@[simp] theorem State.setPBits_pBits (b : Byte) : (s.setPBits b).pBits = b := rfl
@[simp] theorem State.setPBits_pPoly (b : Byte) : (s.setPBits b).pPoly = s.pPoly := rfl
@[simp] theorem State.setPBits_pInit (b : Byte) : (s.setPBits b).pInit = s.pInit := rfl
@[simp] theorem State.setPBits_pXor (b : Byte) : (s.setPBits b).pXor = s.pXor := rfl
@[simp] theorem State.setPBits_pRefl (b : Byte) : (s.setPBits b).pRefl = s.pRefl := rfl
@[simp] theorem State.setPBits_table (b : Byte) : (s.setPBits b).table = s.table := rfl
@[simp] theorem State.setPBits_tValid (b : Byte) : (s.setPBits b).tValid = s.tValid := rfl
@[simp] theorem State.setPBits_tBits (b : Byte) : (s.setPBits b).tBits = s.tBits := rfl
@[simp] theorem State.setPBits_tPoly (b : Byte) : (s.setPBits b).tPoly = s.tPoly := rfl
@[simp] theorem State.setPBits_tRefl (b : Byte) : (s.setPBits b).tRefl = s.tRefl := rfl
@[simp] theorem State.setPBits_eValid (b : Byte) : (s.setPBits b).eValid = s.eValid := rfl
@[simp] theorem State.setPBits_eInit (b : Byte) : (s.setPBits b).eInit = s.eInit := rfl
@[simp] theorem State.setPBits_eXor (b : Byte) : (s.setPBits b).eXor = s.eXor := rfl
@[simp] theorem State.setPBits_run (b : Byte) : (s.setPBits b).run = s.run := rfl
@[simp] theorem State.setPBits_acc (b : Byte) : (s.setPBits b).acc = s.acc := rfl
@[simp] theorem State.setPBits_err (b : Byte) : (s.setPBits b).err = s.err := rfl
@[simp] theorem State.setPBits_inputs (b : Byte) : (s.setPBits b).inputs = s.inputs := rfl
@[simp] theorem State.setPBits_rsps (b : Byte) : (s.setPBits b).rsps = s.rsps := rfl

/-! `setPPoly` -/

@[simp] theorem State.setPPoly_pBits (v : Word) : (s.setPPoly v).pBits = s.pBits := rfl
@[simp] theorem State.setPPoly_pPoly (v : Word) : (s.setPPoly v).pPoly = v := rfl
@[simp] theorem State.setPPoly_pInit (v : Word) : (s.setPPoly v).pInit = s.pInit := rfl
@[simp] theorem State.setPPoly_pXor (v : Word) : (s.setPPoly v).pXor = s.pXor := rfl
@[simp] theorem State.setPPoly_pRefl (v : Word) : (s.setPPoly v).pRefl = s.pRefl := rfl
@[simp] theorem State.setPPoly_table (v : Word) : (s.setPPoly v).table = s.table := rfl
@[simp] theorem State.setPPoly_tValid (v : Word) : (s.setPPoly v).tValid = s.tValid := rfl
@[simp] theorem State.setPPoly_tBits (v : Word) : (s.setPPoly v).tBits = s.tBits := rfl
@[simp] theorem State.setPPoly_tPoly (v : Word) : (s.setPPoly v).tPoly = s.tPoly := rfl
@[simp] theorem State.setPPoly_tRefl (v : Word) : (s.setPPoly v).tRefl = s.tRefl := rfl
@[simp] theorem State.setPPoly_eValid (v : Word) : (s.setPPoly v).eValid = s.eValid := rfl
@[simp] theorem State.setPPoly_eInit (v : Word) : (s.setPPoly v).eInit = s.eInit := rfl
@[simp] theorem State.setPPoly_eXor (v : Word) : (s.setPPoly v).eXor = s.eXor := rfl
@[simp] theorem State.setPPoly_run (v : Word) : (s.setPPoly v).run = s.run := rfl
@[simp] theorem State.setPPoly_acc (v : Word) : (s.setPPoly v).acc = s.acc := rfl
@[simp] theorem State.setPPoly_err (v : Word) : (s.setPPoly v).err = s.err := rfl
@[simp] theorem State.setPPoly_inputs (v : Word) : (s.setPPoly v).inputs = s.inputs := rfl
@[simp] theorem State.setPPoly_rsps (v : Word) : (s.setPPoly v).rsps = s.rsps := rfl

/-! `setPInit` -/

@[simp] theorem State.setPInit_pBits (v : Word) : (s.setPInit v).pBits = s.pBits := rfl
@[simp] theorem State.setPInit_pPoly (v : Word) : (s.setPInit v).pPoly = s.pPoly := rfl
@[simp] theorem State.setPInit_pInit (v : Word) : (s.setPInit v).pInit = v := rfl
@[simp] theorem State.setPInit_pXor (v : Word) : (s.setPInit v).pXor = s.pXor := rfl
@[simp] theorem State.setPInit_pRefl (v : Word) : (s.setPInit v).pRefl = s.pRefl := rfl
@[simp] theorem State.setPInit_table (v : Word) : (s.setPInit v).table = s.table := rfl
@[simp] theorem State.setPInit_tValid (v : Word) : (s.setPInit v).tValid = s.tValid := rfl
@[simp] theorem State.setPInit_tBits (v : Word) : (s.setPInit v).tBits = s.tBits := rfl
@[simp] theorem State.setPInit_tPoly (v : Word) : (s.setPInit v).tPoly = s.tPoly := rfl
@[simp] theorem State.setPInit_tRefl (v : Word) : (s.setPInit v).tRefl = s.tRefl := rfl
@[simp] theorem State.setPInit_eValid (v : Word) : (s.setPInit v).eValid = s.eValid := rfl
@[simp] theorem State.setPInit_eInit (v : Word) : (s.setPInit v).eInit = s.eInit := rfl
@[simp] theorem State.setPInit_eXor (v : Word) : (s.setPInit v).eXor = s.eXor := rfl
@[simp] theorem State.setPInit_run (v : Word) : (s.setPInit v).run = s.run := rfl
@[simp] theorem State.setPInit_acc (v : Word) : (s.setPInit v).acc = s.acc := rfl
@[simp] theorem State.setPInit_err (v : Word) : (s.setPInit v).err = s.err := rfl
@[simp] theorem State.setPInit_inputs (v : Word) : (s.setPInit v).inputs = s.inputs := rfl
@[simp] theorem State.setPInit_rsps (v : Word) : (s.setPInit v).rsps = s.rsps := rfl

/-! `setPXor` -/

@[simp] theorem State.setPXor_pBits (v : Word) : (s.setPXor v).pBits = s.pBits := rfl
@[simp] theorem State.setPXor_pPoly (v : Word) : (s.setPXor v).pPoly = s.pPoly := rfl
@[simp] theorem State.setPXor_pInit (v : Word) : (s.setPXor v).pInit = s.pInit := rfl
@[simp] theorem State.setPXor_pXor (v : Word) : (s.setPXor v).pXor = v := rfl
@[simp] theorem State.setPXor_pRefl (v : Word) : (s.setPXor v).pRefl = s.pRefl := rfl
@[simp] theorem State.setPXor_table (v : Word) : (s.setPXor v).table = s.table := rfl
@[simp] theorem State.setPXor_tValid (v : Word) : (s.setPXor v).tValid = s.tValid := rfl
@[simp] theorem State.setPXor_tBits (v : Word) : (s.setPXor v).tBits = s.tBits := rfl
@[simp] theorem State.setPXor_tPoly (v : Word) : (s.setPXor v).tPoly = s.tPoly := rfl
@[simp] theorem State.setPXor_tRefl (v : Word) : (s.setPXor v).tRefl = s.tRefl := rfl
@[simp] theorem State.setPXor_eValid (v : Word) : (s.setPXor v).eValid = s.eValid := rfl
@[simp] theorem State.setPXor_eInit (v : Word) : (s.setPXor v).eInit = s.eInit := rfl
@[simp] theorem State.setPXor_eXor (v : Word) : (s.setPXor v).eXor = s.eXor := rfl
@[simp] theorem State.setPXor_run (v : Word) : (s.setPXor v).run = s.run := rfl
@[simp] theorem State.setPXor_acc (v : Word) : (s.setPXor v).acc = s.acc := rfl
@[simp] theorem State.setPXor_err (v : Word) : (s.setPXor v).err = s.err := rfl
@[simp] theorem State.setPXor_inputs (v : Word) : (s.setPXor v).inputs = s.inputs := rfl
@[simp] theorem State.setPXor_rsps (v : Word) : (s.setPXor v).rsps = s.rsps := rfl

/-! `setPRefl` -/

@[simp] theorem State.setPRefl_pBits (f : Bit) : (s.setPRefl f).pBits = s.pBits := rfl
@[simp] theorem State.setPRefl_pPoly (f : Bit) : (s.setPRefl f).pPoly = s.pPoly := rfl
@[simp] theorem State.setPRefl_pInit (f : Bit) : (s.setPRefl f).pInit = s.pInit := rfl
@[simp] theorem State.setPRefl_pXor (f : Bit) : (s.setPRefl f).pXor = s.pXor := rfl
@[simp] theorem State.setPRefl_pRefl (f : Bit) : (s.setPRefl f).pRefl = f := rfl
@[simp] theorem State.setPRefl_table (f : Bit) : (s.setPRefl f).table = s.table := rfl
@[simp] theorem State.setPRefl_tValid (f : Bit) : (s.setPRefl f).tValid = s.tValid := rfl
@[simp] theorem State.setPRefl_tBits (f : Bit) : (s.setPRefl f).tBits = s.tBits := rfl
@[simp] theorem State.setPRefl_tPoly (f : Bit) : (s.setPRefl f).tPoly = s.tPoly := rfl
@[simp] theorem State.setPRefl_tRefl (f : Bit) : (s.setPRefl f).tRefl = s.tRefl := rfl
@[simp] theorem State.setPRefl_eValid (f : Bit) : (s.setPRefl f).eValid = s.eValid := rfl
@[simp] theorem State.setPRefl_eInit (f : Bit) : (s.setPRefl f).eInit = s.eInit := rfl
@[simp] theorem State.setPRefl_eXor (f : Bit) : (s.setPRefl f).eXor = s.eXor := rfl
@[simp] theorem State.setPRefl_run (f : Bit) : (s.setPRefl f).run = s.run := rfl
@[simp] theorem State.setPRefl_acc (f : Bit) : (s.setPRefl f).acc = s.acc := rfl
@[simp] theorem State.setPRefl_err (f : Bit) : (s.setPRefl f).err = s.err := rfl
@[simp] theorem State.setPRefl_inputs (f : Bit) : (s.setPRefl f).inputs = s.inputs := rfl
@[simp] theorem State.setPRefl_rsps (f : Bit) : (s.setPRefl f).rsps = s.rsps := rfl

/-! `installTable` -/

@[simp] theorem State.installTable_pBits (t : Memory) : (s.installTable t).pBits = s.pBits := rfl
@[simp] theorem State.installTable_pPoly (t : Memory) : (s.installTable t).pPoly = s.pPoly := rfl
@[simp] theorem State.installTable_pInit (t : Memory) : (s.installTable t).pInit = s.pInit := rfl
@[simp] theorem State.installTable_pXor (t : Memory) : (s.installTable t).pXor = s.pXor := rfl
@[simp] theorem State.installTable_pRefl (t : Memory) : (s.installTable t).pRefl = s.pRefl := rfl
@[simp] theorem State.installTable_table (t : Memory) : (s.installTable t).table = t := rfl
@[simp] theorem State.installTable_tValid (t : Memory) : (s.installTable t).tValid = true := rfl
@[simp] theorem State.installTable_tBits (t : Memory) : (s.installTable t).tBits = some s.pBits := rfl
@[simp] theorem State.installTable_tPoly (t : Memory) : (s.installTable t).tPoly = some s.pPoly := rfl
@[simp] theorem State.installTable_tRefl (t : Memory) : (s.installTable t).tRefl = some s.pRefl := rfl
@[simp] theorem State.installTable_eValid (t : Memory) : (s.installTable t).eValid = s.eValid := rfl
@[simp] theorem State.installTable_eInit (t : Memory) : (s.installTable t).eInit = s.eInit := rfl
@[simp] theorem State.installTable_eXor (t : Memory) : (s.installTable t).eXor = s.eXor := rfl
@[simp] theorem State.installTable_run (t : Memory) : (s.installTable t).run = s.run := rfl
@[simp] theorem State.installTable_acc (t : Memory) : (s.installTable t).acc = s.acc := rfl
@[simp] theorem State.installTable_err (t : Memory) : (s.installTable t).err = s.err := rfl
@[simp] theorem State.installTable_inputs (t : Memory) : (s.installTable t).inputs = s.inputs := rfl
@[simp] theorem State.installTable_rsps (t : Memory) : (s.installTable t).rsps = s.rsps := rfl

/-! `installEngine` -/

@[simp] theorem State.installEngine_pBits : (s.installEngine).pBits = s.pBits := rfl
@[simp] theorem State.installEngine_pPoly : (s.installEngine).pPoly = s.pPoly := rfl
@[simp] theorem State.installEngine_pInit : (s.installEngine).pInit = s.pInit := rfl
@[simp] theorem State.installEngine_pXor : (s.installEngine).pXor = s.pXor := rfl
@[simp] theorem State.installEngine_pRefl : (s.installEngine).pRefl = s.pRefl := rfl
@[simp] theorem State.installEngine_table : (s.installEngine).table = s.table := rfl
@[simp] theorem State.installEngine_tValid : (s.installEngine).tValid = s.tValid := rfl
@[simp] theorem State.installEngine_tBits : (s.installEngine).tBits = s.tBits := rfl
@[simp] theorem State.installEngine_tPoly : (s.installEngine).tPoly = s.tPoly := rfl
@[simp] theorem State.installEngine_tRefl : (s.installEngine).tRefl = s.tRefl := rfl
@[simp] theorem State.installEngine_eValid : (s.installEngine).eValid = true := rfl
@[simp] theorem State.installEngine_eInit : (s.installEngine).eInit = some s.pInit := rfl
@[simp] theorem State.installEngine_eXor : (s.installEngine).eXor = some s.pXor := rfl
@[simp] theorem State.installEngine_run : (s.installEngine).run = s.run := rfl
@[simp] theorem State.installEngine_acc : (s.installEngine).acc = s.acc := rfl
@[simp] theorem State.installEngine_err : (s.installEngine).err = s.err := rfl
@[simp] theorem State.installEngine_inputs : (s.installEngine).inputs = s.inputs := rfl
@[simp] theorem State.installEngine_rsps : (s.installEngine).rsps = s.rsps := rfl

/-! `endEngine` -/

@[simp] theorem State.endEngine_pBits : (s.endEngine).pBits = s.pBits := rfl
@[simp] theorem State.endEngine_pPoly : (s.endEngine).pPoly = s.pPoly := rfl
@[simp] theorem State.endEngine_pInit : (s.endEngine).pInit = s.pInit := rfl
@[simp] theorem State.endEngine_pXor : (s.endEngine).pXor = s.pXor := rfl
@[simp] theorem State.endEngine_pRefl : (s.endEngine).pRefl = s.pRefl := rfl
@[simp] theorem State.endEngine_table : (s.endEngine).table = s.table := rfl
@[simp] theorem State.endEngine_tValid : (s.endEngine).tValid = s.tValid := rfl
@[simp] theorem State.endEngine_tBits : (s.endEngine).tBits = s.tBits := rfl
@[simp] theorem State.endEngine_tPoly : (s.endEngine).tPoly = s.tPoly := rfl
@[simp] theorem State.endEngine_tRefl : (s.endEngine).tRefl = s.tRefl := rfl
@[simp] theorem State.endEngine_eValid : (s.endEngine).eValid = false := rfl
@[simp] theorem State.endEngine_eInit : (s.endEngine).eInit = none := rfl
@[simp] theorem State.endEngine_eXor : (s.endEngine).eXor = none := rfl
@[simp] theorem State.endEngine_run : (s.endEngine).run = s.run := rfl
@[simp] theorem State.endEngine_acc : (s.endEngine).acc = s.acc := rfl
@[simp] theorem State.endEngine_err : (s.endEngine).err = s.err := rfl
@[simp] theorem State.endEngine_inputs : (s.endEngine).inputs = s.inputs := rfl
@[simp] theorem State.endEngine_rsps : (s.endEngine).rsps = s.rsps := rfl

/-! `beginRun` -/

@[simp] theorem State.beginRun_pBits (a : Word) : (s.beginRun a).pBits = s.pBits := rfl
@[simp] theorem State.beginRun_pPoly (a : Word) : (s.beginRun a).pPoly = s.pPoly := rfl
@[simp] theorem State.beginRun_pInit (a : Word) : (s.beginRun a).pInit = s.pInit := rfl
@[simp] theorem State.beginRun_pXor (a : Word) : (s.beginRun a).pXor = s.pXor := rfl
@[simp] theorem State.beginRun_pRefl (a : Word) : (s.beginRun a).pRefl = s.pRefl := rfl
@[simp] theorem State.beginRun_table (a : Word) : (s.beginRun a).table = s.table := rfl
@[simp] theorem State.beginRun_tValid (a : Word) : (s.beginRun a).tValid = s.tValid := rfl
@[simp] theorem State.beginRun_tBits (a : Word) : (s.beginRun a).tBits = s.tBits := rfl
@[simp] theorem State.beginRun_tPoly (a : Word) : (s.beginRun a).tPoly = s.tPoly := rfl
@[simp] theorem State.beginRun_tRefl (a : Word) : (s.beginRun a).tRefl = s.tRefl := rfl
@[simp] theorem State.beginRun_eValid (a : Word) : (s.beginRun a).eValid = s.eValid := rfl
@[simp] theorem State.beginRun_eInit (a : Word) : (s.beginRun a).eInit = s.eInit := rfl
@[simp] theorem State.beginRun_eXor (a : Word) : (s.beginRun a).eXor = s.eXor := rfl
@[simp] theorem State.beginRun_run (a : Word) : (s.beginRun a).run = true := rfl
@[simp] theorem State.beginRun_acc (a : Word) : (s.beginRun a).acc = some a := rfl
@[simp] theorem State.beginRun_err (a : Word) : (s.beginRun a).err = s.err := rfl
@[simp] theorem State.beginRun_inputs (a : Word) : (s.beginRun a).inputs = s.inputs := rfl
@[simp] theorem State.beginRun_rsps (a : Word) : (s.beginRun a).rsps = s.rsps := rfl

/-! `setAcc` -/

@[simp] theorem State.setAcc_pBits (a : Word) : (s.setAcc a).pBits = s.pBits := rfl
@[simp] theorem State.setAcc_pPoly (a : Word) : (s.setAcc a).pPoly = s.pPoly := rfl
@[simp] theorem State.setAcc_pInit (a : Word) : (s.setAcc a).pInit = s.pInit := rfl
@[simp] theorem State.setAcc_pXor (a : Word) : (s.setAcc a).pXor = s.pXor := rfl
@[simp] theorem State.setAcc_pRefl (a : Word) : (s.setAcc a).pRefl = s.pRefl := rfl
@[simp] theorem State.setAcc_table (a : Word) : (s.setAcc a).table = s.table := rfl
@[simp] theorem State.setAcc_tValid (a : Word) : (s.setAcc a).tValid = s.tValid := rfl
@[simp] theorem State.setAcc_tBits (a : Word) : (s.setAcc a).tBits = s.tBits := rfl
@[simp] theorem State.setAcc_tPoly (a : Word) : (s.setAcc a).tPoly = s.tPoly := rfl
@[simp] theorem State.setAcc_tRefl (a : Word) : (s.setAcc a).tRefl = s.tRefl := rfl
@[simp] theorem State.setAcc_eValid (a : Word) : (s.setAcc a).eValid = s.eValid := rfl
@[simp] theorem State.setAcc_eInit (a : Word) : (s.setAcc a).eInit = s.eInit := rfl
@[simp] theorem State.setAcc_eXor (a : Word) : (s.setAcc a).eXor = s.eXor := rfl
@[simp] theorem State.setAcc_run (a : Word) : (s.setAcc a).run = s.run := rfl
@[simp] theorem State.setAcc_acc (a : Word) : (s.setAcc a).acc = some a := rfl
@[simp] theorem State.setAcc_err (a : Word) : (s.setAcc a).err = s.err := rfl
@[simp] theorem State.setAcc_inputs (a : Word) : (s.setAcc a).inputs = s.inputs := rfl
@[simp] theorem State.setAcc_rsps (a : Word) : (s.setAcc a).rsps = s.rsps := rfl

/-! `endRun` -/

@[simp] theorem State.endRun_pBits : (s.endRun).pBits = s.pBits := rfl
@[simp] theorem State.endRun_pPoly : (s.endRun).pPoly = s.pPoly := rfl
@[simp] theorem State.endRun_pInit : (s.endRun).pInit = s.pInit := rfl
@[simp] theorem State.endRun_pXor : (s.endRun).pXor = s.pXor := rfl
@[simp] theorem State.endRun_pRefl : (s.endRun).pRefl = s.pRefl := rfl
@[simp] theorem State.endRun_table : (s.endRun).table = s.table := rfl
@[simp] theorem State.endRun_tValid : (s.endRun).tValid = s.tValid := rfl
@[simp] theorem State.endRun_tBits : (s.endRun).tBits = s.tBits := rfl
@[simp] theorem State.endRun_tPoly : (s.endRun).tPoly = s.tPoly := rfl
@[simp] theorem State.endRun_tRefl : (s.endRun).tRefl = s.tRefl := rfl
@[simp] theorem State.endRun_eValid : (s.endRun).eValid = s.eValid := rfl
@[simp] theorem State.endRun_eInit : (s.endRun).eInit = s.eInit := rfl
@[simp] theorem State.endRun_eXor : (s.endRun).eXor = s.eXor := rfl
@[simp] theorem State.endRun_run : (s.endRun).run = false := rfl
@[simp] theorem State.endRun_acc : (s.endRun).acc = none := rfl
@[simp] theorem State.endRun_err : (s.endRun).err = s.err := rfl
@[simp] theorem State.endRun_inputs : (s.endRun).inputs = s.inputs := rfl
@[simp] theorem State.endRun_rsps : (s.endRun).rsps = s.rsps := rfl

/-! `setInputs` -/

@[simp] theorem State.setInputs_pBits (l : List Input) : (s.setInputs l).pBits = s.pBits := rfl
@[simp] theorem State.setInputs_pPoly (l : List Input) : (s.setInputs l).pPoly = s.pPoly := rfl
@[simp] theorem State.setInputs_pInit (l : List Input) : (s.setInputs l).pInit = s.pInit := rfl
@[simp] theorem State.setInputs_pXor (l : List Input) : (s.setInputs l).pXor = s.pXor := rfl
@[simp] theorem State.setInputs_pRefl (l : List Input) : (s.setInputs l).pRefl = s.pRefl := rfl
@[simp] theorem State.setInputs_table (l : List Input) : (s.setInputs l).table = s.table := rfl
@[simp] theorem State.setInputs_tValid (l : List Input) : (s.setInputs l).tValid = s.tValid := rfl
@[simp] theorem State.setInputs_tBits (l : List Input) : (s.setInputs l).tBits = s.tBits := rfl
@[simp] theorem State.setInputs_tPoly (l : List Input) : (s.setInputs l).tPoly = s.tPoly := rfl
@[simp] theorem State.setInputs_tRefl (l : List Input) : (s.setInputs l).tRefl = s.tRefl := rfl
@[simp] theorem State.setInputs_eValid (l : List Input) : (s.setInputs l).eValid = s.eValid := rfl
@[simp] theorem State.setInputs_eInit (l : List Input) : (s.setInputs l).eInit = s.eInit := rfl
@[simp] theorem State.setInputs_eXor (l : List Input) : (s.setInputs l).eXor = s.eXor := rfl
@[simp] theorem State.setInputs_run (l : List Input) : (s.setInputs l).run = s.run := rfl
@[simp] theorem State.setInputs_acc (l : List Input) : (s.setInputs l).acc = s.acc := rfl
@[simp] theorem State.setInputs_err (l : List Input) : (s.setInputs l).err = s.err := rfl
@[simp] theorem State.setInputs_inputs (l : List Input) : (s.setInputs l).inputs = l := rfl
@[simp] theorem State.setInputs_rsps (l : List Input) : (s.setInputs l).rsps = s.rsps := rfl

/-! `applyReset` -/

@[simp] theorem State.applyReset_pBits : s.applyReset.pBits = State.reset.pBits := rfl
@[simp] theorem State.applyReset_pPoly : s.applyReset.pPoly = State.reset.pPoly := rfl
@[simp] theorem State.applyReset_pInit : s.applyReset.pInit = State.reset.pInit := rfl
@[simp] theorem State.applyReset_pXor : s.applyReset.pXor = State.reset.pXor := rfl
@[simp] theorem State.applyReset_pRefl : s.applyReset.pRefl = State.reset.pRefl := rfl
@[simp] theorem State.applyReset_table : s.applyReset.table = State.reset.table := rfl
@[simp] theorem State.applyReset_tValid : s.applyReset.tValid = State.reset.tValid := rfl
@[simp] theorem State.applyReset_tBits : s.applyReset.tBits = State.reset.tBits := rfl
@[simp] theorem State.applyReset_tPoly : s.applyReset.tPoly = State.reset.tPoly := rfl
@[simp] theorem State.applyReset_tRefl : s.applyReset.tRefl = State.reset.tRefl := rfl
@[simp] theorem State.applyReset_eValid : s.applyReset.eValid = State.reset.eValid := rfl
@[simp] theorem State.applyReset_eInit : s.applyReset.eInit = State.reset.eInit := rfl
@[simp] theorem State.applyReset_eXor : s.applyReset.eXor = State.reset.eXor := rfl
@[simp] theorem State.applyReset_run : s.applyReset.run = State.reset.run := rfl
@[simp] theorem State.applyReset_acc : s.applyReset.acc = State.reset.acc := rfl
@[simp] theorem State.applyReset_err : s.applyReset.err = State.reset.err := rfl
@[simp] theorem State.applyReset_inputs : s.applyReset.inputs = s.inputs := rfl
@[simp] theorem State.applyReset_rsps : s.applyReset.rsps = s.rsps := rfl

/-- The part BUILD and MKENG share is `installTable` of the table built from the staging registers. -/
@[simp] theorem State.buildFromStaging_eq :
    s.buildFromStaging = s.installTable (buildTable s.pBits.toNat s.pPoly.toNat s.pRefl) := rfl

end Sys2Proof.Machine
end

