-- ==== Sys2Proof/Laws/Ops.lean ====
section
/-!
SUPPORT. For each shared operation, once, everything it can do: how a command completes, is rejected or stops, the read
and the write of the table memory and the canonical form they keep, and the layout of command and response words.
-/

namespace Sys2Proof.Machine

variable {s t : State} {α : Type}

/-! ### How a command ends -/

theorem complete_eq (d : Word) (s : State) : complete d s = .next (s.respond d) := rfl

theorem raise_eq (why : Reject) (s : State) : raise why s = .next (s.reject why) := rfl

@[simp] theorem complete_next (d : Word) : complete d s = .next t ↔ t = s.respond d := by
  simp [complete, eq_comm]

@[simp] theorem raise_next (why : Reject) : raise why s = .next t ↔ t = s.reject why := by
  simp [raise, eq_comm]

/-! ### State preconditions, guarded reads and value checks -/

theorem needs_of_set {flag : Bool} (h : flag = true) (why : Reject) (s : State)
    (go : Host.Outcome State Fault Refusal) : needs flag why s go = go := by simp [needs, h]

theorem needs_of_clear {flag : Bool} (h : flag = false) (why : Reject) (s : State)
    (go : Host.Outcome State Fault Refusal) : needs flag why s go = .next (s.reject why) := by
  simp [needs, h, raise]

/-- A command with a state precondition that answers a next state either was let through or was rejected. -/
theorem needs_next {flag : Bool} {why : Reject} {go : Host.Outcome State Fault Refusal} :
    needs flag why s go = .next t ↔ (flag = true ∧ go = .next t) ∨ (flag = false ∧ t = s.reject why) := by
  cases flag <;> simp [needs]

theorem needsTable_next {go : Host.Outcome State Fault Refusal} :
    needsTable s go = .next t ↔
      (s.tValid = true ∧ go = .next t) ∨ (s.tValid = false ∧ t = s.reject .tableNotBuilt) := needs_next

theorem needsEngine_next {go : Host.Outcome State Fault Refusal} :
    needsEngine s go = .next t ↔
      (s.eValid = true ∧ go = .next t) ∨ (s.eValid = false ∧ t = s.reject .engineNotReady) := needs_next

theorem needsRun_next {go : Host.Outcome State Fault Refusal} :
    needsRun s go = .next t ↔
      (s.run = true ∧ go = .next t) ∨ (s.run = false ∧ t = s.reject .notRunning) := needs_next

/-- The value check of BYTE lets through or rejects. -/
theorem needsByte_next {v : Nat} {go : Host.Outcome State Fault Refusal} :
    needsByte v s go = .next t ↔ (v ≤ 255 ∧ go = .next t) ∨ (255 < v ∧ t = s.reject .invalidByte) := by
  unfold needsByte
  by_cases h : v > 255
  · simp [h, Nat.not_le.mpr h]
  · simp [h, Nat.not_lt.mp h]

@[simp] theorem withValue_some (a : α) (what : Guarded) (go : α → Host.Outcome State Fault Refusal) :
    withValue (some a) what go = go a := rfl

@[simp] theorem withValue_none (what : Guarded) (go : α → Host.Outcome State Fault Refusal) :
    withValue none what go = .fault (.noValue what) := rfl

/-- A guarded read that answers a next state found a value. -/
theorem withValue_next {r : Option α} {what : Guarded} {go : α → Host.Outcome State Fault Refusal} :
    withValue r what go = .next t ↔ ∃ a, r = some a ∧ go a = .next t := by
  cases r <;> simp

/-- A read of the width that answers a next state found a legal width. -/
theorem withWidth_next {go : Nat → Host.Outcome State Fault Refusal} :
    withWidth s go = .next t ↔ ∃ b, s.tBits = some b ∧ validBits b.toNat = true ∧ go b.toNat = .next t := by
  unfold withWidth
  rw [withValue_next]
  refine exists_congr fun b => and_congr_right fun _ => ?_
  by_cases h : validBits b.toNat = true <;> simp [h]

theorem withWidth_of_legal {b : Byte} (hb : s.tBits = some b) (hv : validBits b.toNat = true)
    (go : Nat → Host.Outcome State Fault Refusal) : withWidth s go = go b.toNat := by
  simp [withWidth, hb, hv]

/-! ### The table memory -/

/-- A read after the one write of the table: the value written at every index of the table space, no value elsewhere. -/
theorem tabRead_tabWriteAll (f : Nat → Word) (i : Nat) :
    tabRead (tabWriteAll f) i = if i < 256 then some (f i) else none := by
  have key : ∀ n, tabRead ((List.range n).map fun d => (d, f d)) i = if i < n then some (f i) else none := by
    intro n
    induction n with
    | zero => simp [tabRead]
    | succ n ih =>
      unfold tabRead at ih ⊢
      rw [List.range_succ, List.map_append, List.find?_append]
      by_cases h : i < n
      · simp only [h, if_true, Option.map_eq_some_iff] at ih
        obtain ⟨c, hc, hv⟩ := ih
        simp [hc, hv, Nat.lt_succ_of_lt h]
      · simp only [h, if_false, Option.map_eq_none_iff] at ih
        by_cases hn : i = n
        · subst hn; simp [ih]
        · have : ¬ i < n + 1 := by omega
          simp [ih, this, Ne.symm hn]
  exact key 256

/-- The one write of the table leaves its canonical form, whatever was there before. -/
theorem wf_tabWriteAll (f : Nat → Word) : Memory.wf (tabWriteAll f) := by
  refine ⟨?_, ?_⟩
  · have : (tabWriteAll f).map Prod.fst = List.range 256 := by
      simp [tabWriteAll, Function.comp_def]
    rw [this]
    exact List.pairwise_lt_range
  · intro c hc
    simp only [tabWriteAll, List.mem_map, List.mem_range] at hc
    obtain ⟨d, hd, rfl⟩ := hc
    exact hd

/-- The table at reset is in its canonical form. -/
theorem wf_reset : Memory.wf State.reset.table := by decide

/-- An entry of a built table, read back. -/
theorem tabRead_buildTable (bits poly : Nat) (refl : Bit) (i : Nat) :
    tabRead (buildTable bits poly refl) i =
      if i < 256 then some (BitVec.ofNat 64 (tabEntry bits poly refl i)) else none :=
  tabRead_tabWriteAll _ i

theorem wf_buildTable (bits poly : Nat) (refl : Bit) : Memory.wf (buildTable bits poly refl) :=
  wf_tabWriteAll _

/-! ### Command and response words -/

@[simp] theorem opcodeOf_append (k : Byte) (v : Word) : opcodeOf (k ++ v) = k := by
  unfold opcodeOf
  ext j hj
  have := BitVec.getLsbD_append (x := k) (y := v) (i := 64 + j)
  simpa [BitVec.getElem_extractLsb', BitVec.getLsbD_eq_getElem hj] using this

@[simp] theorem operandOf_append (k : Byte) (v : Word) : operandOf (k ++ v) = v := by
  unfold operandOf
  ext j hj
  have := BitVec.getLsbD_append (x := k) (y := v) (i := j)
  simpa [BitVec.getElem_extractLsb', BitVec.getLsbD_eq_getElem hj, hj] using this

@[simp] theorem rspStatus_rspWord (k : Byte) (d : Word) : rspStatus (rspWord k d) = k := opcodeOf_append k d

@[simp] theorem rspData_rspWord (k : Byte) (d : Word) : rspData (rspWord k d) = d := operandOf_append k d

/-! ### The port -/

/-- A command word that decodes is executed; one that does not is rejected with ILLEGAL_CMD. -/
theorem runWord_of_ok {cw : CmdWord} {i : Instr} (h : decode cw = .ok i) (s : State) :
    runWord cw s = exec i s := by simp [runWord, h]

theorem runWord_of_error {cw : CmdWord} {e : Illegal} (h : decode cw = .error e) (s : State) :
    runWord cw s = .next (s.reject .illegalCmd) := by simp [runWord, h, raise]

theorem advance_idle (h : s.inputs = []) : advance s = .next s := by simp [advance, h]

theorem advance_cmd {cw : CmdWord} {rest : List Input} (h : s.inputs = .cmd cw :: rest) :
    advance s = runWord cw (s.setInputs rest) := by simp [advance, h]

theorem advance_rst {rest : List Input} (h : s.inputs = .rst :: rest) :
    advance s = .next (s.setInputs rest).applyReset := by simp [advance, h]

end Sys2Proof.Machine
end

