-- ==== Sys2Proof/Laws/PerInstr.lean ====
section
/-!
SUPPORT. Statements about every command as syntax, one lemma per constructor of Instr.
EncodesLegally: the command's word carries its opcode and its operand, and some row of the opcode map, one with that
opcode, spells it (30_encoding.md R71, R74).
-/

namespace Sys2Proof.Laws.EncodesLegally

open Sys2Proof.Machine

/-- The command word has the command's opcode and operand and is legal by the mask and match of its row. -/
def Statement (i : Instr) : Prop :=
  opcodeOf (encode i) = opcode i ∧ operandOf (encode i) = operand i ∧
    ∃ r ∈ opcodeRows, r.opcode = opcode i ∧ r.spells (encode i) = true

/-- Both halves of a word are masked apart. -/
theorem append_and (a b : Byte) (c d : Word) : (a ++ c : CmdWord) &&& (b ++ d) = (a &&& b) ++ (c &&& d) := by
  have h := BitVec.and_append (x₁ := a) (x₂ := b) (y₁ := c) (y₂ := d)
  exact h

/-- A row spells a word of its opcode whose operand keeps to its format. -/
theorem of_row {i : Instr} (r : OpcodeRow) (hr : r ∈ opcodeRows) (ho : r.opcode = opcode i)
    (hv : operand i &&& r.format.operandMask = 0) : Statement i := by
  refine ⟨opcodeOf_append _ _, operandOf_append _ _, r, hr, ho, ?_⟩
  have h : ∀ k : Byte, k &&& 0xFF = k := by decide
  simp only [OpcodeRow.spells, OpcodeRow.mask, OpcodeRow.pattern, encode, append_and, hv, ho, h, beq_self_eq_true]

theorem maskV (v : Word) : v &&& Format.V.operandMask = 0 := by simp [Format.operandMask]

theorem maskB (b : Byte) : b.setWidth 64 &&& Format.B.operandMask = 0 := by
  have h : ∀ b : Byte, b.setWidth 64 &&& (0xFFFFFFFFFFFFFF00 : Word) = 0 := by decide
  exact h b

theorem maskF (f : Bit) : f.setWidth 64 &&& Format.F.operandMask = 0 := by
  have h : ∀ f : Bit, f.setWidth 64 &&& (0xFFFFFFFFFFFFFFFE : Word) = 0 := by decide
  exact h f

theorem nop : Statement (.nop) :=
  of_row ⟨0x00, "NOP", .N⟩ (by decide) rfl (by decide)

theorem build : Statement (.build) :=
  of_row ⟨0x01, "BUILD", .N⟩ (by decide) rfl (by decide)

theorem mkeng : Statement (.mkeng) :=
  of_row ⟨0x02, "MKENG", .N⟩ (by decide) rfl (by decide)

theorem start : Statement (.start) :=
  of_row ⟨0x03, "START", .N⟩ (by decide) rfl (by decide)

theorem byte (v : Word) : Statement (.byte v) :=
  of_row ⟨0x04, "BYTE", .V⟩ (by decide) rfl (maskV v)

theorem finish : Statement (.finish) :=
  of_row ⟨0x05, "FINISH", .N⟩ (by decide) rfl (by decide)

theorem rdtab (b : Byte) : Statement (.rdtab b) :=
  of_row ⟨0x06, "RDTAB", .B⟩ (by decide) rfl (maskB b)

theorem wrbits (b : Byte) : Statement (.wrbits b) :=
  of_row ⟨0x10, "WRBITS", .B⟩ (by decide) rfl (maskB b)

theorem wrpoly (v : Word) : Statement (.wrpoly v) :=
  of_row ⟨0x11, "WRPOLY", .V⟩ (by decide) rfl (maskV v)

theorem wrinit (v : Word) : Statement (.wrinit v) :=
  of_row ⟨0x12, "WRINIT", .V⟩ (by decide) rfl (maskV v)

theorem wrxor (v : Word) : Statement (.wrxor v) :=
  of_row ⟨0x13, "WRXOR", .V⟩ (by decide) rfl (maskV v)

theorem wrrefl (f : Bit) : Statement (.wrrefl f) :=
  of_row ⟨0x14, "WRREFL", .F⟩ (by decide) rfl (maskF f)

theorem rdbits : Statement (.rdbits) :=
  of_row ⟨0x20, "RDBITS", .N⟩ (by decide) rfl (by decide)

theorem rdpoly : Statement (.rdpoly) :=
  of_row ⟨0x21, "RDPOLY", .N⟩ (by decide) rfl (by decide)

theorem rdinit : Statement (.rdinit) :=
  of_row ⟨0x22, "RDINIT", .N⟩ (by decide) rfl (by decide)

theorem rdxor : Statement (.rdxor) :=
  of_row ⟨0x23, "RDXOR", .N⟩ (by decide) rfl (by decide)

theorem rdrefl : Statement (.rdrefl) :=
  of_row ⟨0x24, "RDREFL", .N⟩ (by decide) rfl (by decide)

theorem rdstat : Statement (.rdstat) :=
  of_row ⟨0x25, "RDSTAT", .N⟩ (by decide) rfl (by decide)

theorem rdtbits : Statement (.rdtbits) :=
  of_row ⟨0x26, "RDTBITS", .N⟩ (by decide) rfl (by decide)

theorem rdtpoly : Statement (.rdtpoly) :=
  of_row ⟨0x27, "RDTPOLY", .N⟩ (by decide) rfl (by decide)

theorem rdtrefl : Statement (.rdtrefl) :=
  of_row ⟨0x28, "RDTREFL", .N⟩ (by decide) rfl (by decide)

theorem rdeinit : Statement (.rdeinit) :=
  of_row ⟨0x29, "RDEINIT", .N⟩ (by decide) rfl (by decide)

theorem rdexor : Statement (.rdexor) :=
  of_row ⟨0x2A, "RDEXOR", .N⟩ (by decide) rfl (by decide)

theorem rdmask : Statement (.rdmask) :=
  of_row ⟨0x2B, "RDMASK", .N⟩ (by decide) rfl (by decide)

theorem rdshift : Statement (.rdshift) :=
  of_row ⟨0x2C, "RDSHIFT", .N⟩ (by decide) rfl (by decide)

theorem rdacc : Statement (.rdacc) :=
  of_row ⟨0x2D, "RDACC", .N⟩ (by decide) rfl (by decide)

end Sys2Proof.Laws.EncodesLegally
end

