-- ==== Sys2Proof/Tests/Slice0.lean ====
section
/-!
SUPPORT. The model's own tests. Every expected value is the spec's: a vector of 95_test_vectors.md (K, S, B, X, P, sections
2.1 to 2.8) or a worked example of the rule named. A theorem witness_<Statement> gives a state and operands that meet
all the hypotheses of the obligation of that name together.
-/

namespace Sys2Proof.Tests

open Sys2Proof Sys2Proof.Machine

/-! ### Ill-formed words and operands: one for each check (30_encoding.md R75, R78; 95_test_vectors.md 2.8) -/

theorem test_illformed_unassigned_class0 : WellFormed 0x070000000000000000 = false := by decide
theorem test_illformed_unassigned_class1 : WellFormed 0x150000000000000000 = false := by decide
theorem test_illformed_unassigned_class2 : WellFormed 0x2E0000000000000000 = false := by decide
theorem test_illformed_unassigned_class15 : WellFormed 0xFFFFFFFFFFFFFFFFFF = false := by decide
theorem test_illformed_N : WellFormed 0x018000000000000000 = false := by decide
theorem test_illformed_B : WellFormed 0x100000000000000140 = false := by decide
theorem test_illformed_F : WellFormed 0x140000000000000003 = false := by decide
theorem test_wellformed_V : WellFormed 0x04FFFFFFFFFFFFFFFF = true := by decide
theorem test_unfit_V : Format.V.fits (2 ^ 64) = false := by decide
theorem test_unfit_B : Format.B.fits 256 = false := by decide
theorem test_unfit_F : Format.F.fits 2 = false := by decide
theorem test_unfit_N : Format.N.fits 1 = false := by decide

/-- "Exactly four of the 256 values of `P_BITS` are valid" (95_test_vectors.md 2.2). -/
theorem test_four_valid_widths : (List.range 256).filter validBits = [8, 16, 32, 64] := by decide

/-! ### Decoding, from words of the spec (30_encoding.md R74; 95_test_vectors.md 2.2, 2.6, 2.8) -/

theorem test_decode_nop : decode 0x000000000000000000 = .ok (.nop) := by decide
theorem test_decode_build : decode 0x010000000000000000 = .ok (.build) := by decide
theorem test_decode_mkeng : decode 0x020000000000000000 = .ok (.mkeng) := by decide
theorem test_decode_start : decode 0x030000000000000000 = .ok (.start) := by decide
theorem test_decode_byte : decode 0x040000000000000031 = .ok (.byte 0x31) := by decide
theorem test_decode_byte_top : decode 0x04FFFFFFFFFFFFFFFF = .ok (.byte 0xFFFFFFFFFFFFFFFF) := by decide
theorem test_decode_finish : decode 0x050000000000000000 = .ok (.finish) := by decide
theorem test_decode_rdtab : decode 0x0600000000000000FF = .ok (.rdtab 255) := by decide
theorem test_decode_wrbits : decode 0x1000000000000000FF = .ok (.wrbits 255) := by decide
theorem test_decode_wrpoly : decode 0x110000000004C11DB7 = .ok (.wrpoly 0x04C11DB7) := by decide
theorem test_decode_wrinit : decode 0x12123456789ABCDEF0 = .ok (.wrinit 0x123456789ABCDEF0) := by decide
theorem test_decode_wrxor : decode 0x1300000000FFFFFFFF = .ok (.wrxor 0xFFFFFFFF) := by decide
theorem test_decode_wrrefl : decode 0x140000000000000001 = .ok (.wrrefl 1) := by decide
theorem test_decode_rdbits : decode 0x200000000000000000 = .ok (.rdbits) := by decide
theorem test_decode_rdpoly : decode 0x210000000000000000 = .ok (.rdpoly) := by decide
theorem test_decode_rdinit : decode 0x220000000000000000 = .ok (.rdinit) := by decide
theorem test_decode_rdxor : decode 0x230000000000000000 = .ok (.rdxor) := by decide
theorem test_decode_rdrefl : decode 0x240000000000000000 = .ok (.rdrefl) := by decide
theorem test_decode_rdstat : decode 0x250000000000000000 = .ok (.rdstat) := by decide
theorem test_decode_rdtbits : decode 0x260000000000000000 = .ok (.rdtbits) := by decide
theorem test_decode_rdtpoly : decode 0x270000000000000000 = .ok (.rdtpoly) := by decide
theorem test_decode_rdtrefl : decode 0x280000000000000000 = .ok (.rdtrefl) := by decide
theorem test_decode_rdeinit : decode 0x290000000000000000 = .ok (.rdeinit) := by decide
theorem test_decode_rdexor : decode 0x2A0000000000000000 = .ok (.rdexor) := by decide
theorem test_decode_rdmask : decode 0x2B0000000000000000 = .ok (.rdmask) := by decide
theorem test_decode_rdshift : decode 0x2C0000000000000000 = .ok (.rdshift) := by decide
theorem test_decode_rdacc : decode 0x2D0000000000000000 = .ok (.rdacc) := by decide
theorem test_decode_N_operand : decode 0x2D0000000000000001 = .error (.operandBreaks .N) := by decide
theorem test_decode_B_operand : decode 0x060000000000000100 = .error (.operandBreaks .B) := by decide
theorem test_decode_F_operand : decode 0x140000000000000002 = .error (.operandBreaks .F) := by decide
theorem test_decode_class1_sel5 : decode 0x150000000000000000 = .error (.unassigned 0x15) := by decide
theorem test_decode_class2_selF : decode 0x2F0000000000000000 = .error (.unassigned 0x2F) := by decide
theorem test_decode_class3 : decode 0x300000000000000000 = .error (.unassigned 0x30) := by decide
theorem test_table_word : decodeTableWord 72 0x0600000000000000FF = some (.rdtab 255) := by decide
theorem test_encode_wrpoly : encode (.wrpoly 0x04C11DB7) = 0x110000000004C11DB7 := by decide

/-! ### Small states: a CRC-8 table, engine and computation (parameters K1), and a CRC-16/USB engine (K4) -/

/-- Staging registers of a configuration, everything else as after reset. -/
def staged (bits : Byte) (poly init xor : Word) (refl : Bit) : State :=
  { State.reset with pBits := bits, pPoly := poly, pInit := init, pXor := xor, pRefl := refl }

/-- After BUILD of a configuration. -/
def built (bits : Byte) (poly : Word) (refl : Bit) : State :=
  { State.reset with
    table := buildTable bits.toNat poly.toNat refl
    tValid := true
    tBits := some bits
    tPoly := some poly
    tRefl := some refl }

/-- After MKENG of a configuration. -/
def engine (bits : Byte) (poly init xor : Word) (refl : Bit) : State :=
  { built bits poly refl with eValid := true, eInit := some init, eXor := some xor }

/-- While a computation runs, with accumulator `acc`. -/
def running (bits : Byte) (poly init xor : Word) (refl : Bit) (acc : Word) : State :=
  { engine bits poly init xor refl with run := true, acc := some acc }

def crc8Built : State := built 8 0x07 0
def crc8Engine : State := engine 8 0x07 0 0 0
def crc8Running : State := running 8 0x07 0 0 0 0x97
def usbRunning : State := running 16 0x8005 0xFFFF 0xFFFF 1 0xFFFF

theorem reset_inv : State.reset.Inv where
  run_needs_engine := by decide
  engine_needs_table := by decide
  table_built := by simp [State.reset]
  table_absent := by simp [State.reset]
  engine_fits := by simp [State.reset]
  engine_absent := by simp [State.reset]
  acc_fits := by simp [State.reset]
  acc_absent := by simp [State.reset]
  err_code := by decide

theorem crc8Built_inv : crc8Built.Inv where
  run_needs_engine h := h
  engine_needs_table _ := rfl
  table_built _ := ⟨8, 0x07, 0, rfl, rfl, rfl, by decide, rfl⟩
  table_absent h := nomatch h
  engine_fits h := nomatch h
  engine_absent _ := ⟨rfl, rfl⟩
  acc_fits h := nomatch h
  acc_absent _ := rfl
  err_code := by decide

theorem crc8Engine_inv : crc8Engine.Inv where
  run_needs_engine _ := rfl
  engine_needs_table _ := rfl
  table_built _ := ⟨8, 0x07, 0, rfl, rfl, rfl, by decide, rfl⟩
  table_absent h := nomatch h
  engine_fits _ := ⟨8, 0, 0, rfl, rfl, rfl, by decide, by decide⟩
  engine_absent h := nomatch h
  acc_fits h := nomatch h
  acc_absent _ := rfl
  err_code := by decide

theorem crc8Running_inv : crc8Running.Inv where
  run_needs_engine _ := rfl
  engine_needs_table _ := rfl
  table_built _ := ⟨8, 0x07, 0, rfl, rfl, rfl, by decide, rfl⟩
  table_absent h := nomatch h
  engine_fits _ := ⟨8, 0, 0, rfl, rfl, rfl, by decide, by decide⟩
  engine_absent h := nomatch h
  acc_fits _ := ⟨8, 0x97, rfl, rfl, by decide⟩
  acc_absent h := nomatch h
  err_code := by decide

/-! ### The commands: what one step answers -/

/-- The state a command leaves. -/
def after (o : Host.Outcome State Fault Refusal) : Option State :=
  match o with
  | .next t => some t
  | .fault _ => none
  | .refused _ => none

/-- The last response a command gave. -/
def answer (o : Host.Outcome State Fault Refusal) : Option RspWord := (after o).bind (·.rsps.getLast?)

/-- A component after a command. -/
def field {α : Type} (f : State → α) (o : Host.Outcome State Fault Refusal) : Option α := (after o).map f

/-- B1. -/
theorem test_nop : answer (exec .nop State.reset) = some 0x000000000000000000 := by decide
/-- R145's example: TABLE[0x80] = 0x89. -/
theorem test_build_entry :
    field (fun t => tabRead t.table 0x80) (exec .build (staged 8 0x07 0 0 0)) = some (some 0x89) := by decide
/-- X6: the polynomial is 2^8. -/
theorem test_build_overwide : answer (exec .build (staged 8 0x100 0 0 0)) = some 0x020000000000000000 := by decide
/-- R178's example: TABLE[1] = 0xC0C1. -/
theorem test_mkeng_entry :
    field (fun t => tabRead t.table 1) (exec .mkeng (staged 16 0x8005 0xFFFF 0xFFFF 1)) = some (some 0xC0C1) := by
  decide
/-- X10: the initial value is 2^8. -/
theorem test_mkeng_overwide : answer (exec .mkeng (staged 8 0x07 0x100 0 0)) = some 0x020000000000000000 := by decide
/-- X22. -/
theorem test_start_reset : answer (exec .start State.reset) = some 0x050000000000000000 := by decide
/-- R179: START while RUN = 1 restarts (P6, rows 33 and 34). -/
theorem test_start_restarts :
    field (·.acc) (exec .start (running 8 0x07 0xFF 0 1 0x07)) = some (some 0xFF) := by decide
/-- B45, B46. -/
theorem test_byte_usb : field (·.acc) (exec (.byte 0x31) usbRunning) = some (some 0x947E) := by decide
/-- X14: 256 is rejected, not wrapped. -/
theorem test_byte_256 : answer (exec (.byte 256) usbRunning) = some 0x030000000000000000 := by decide
/-- K1's last step: FINISH responds 0xF4; and B48: 0x947E ^ 0xFFFF = 0x6B81. -/
theorem test_finish_usb :
    answer (exec .finish (running 16 0x8005 0xFFFF 0xFFFF 1 0x947E)) = some 0x000000000000006B81 := by decide
/-- X20: a second FINISH. -/
theorem test_finish_not_running : answer (exec .finish crc8Engine) = some 0x060000000000000000 := by decide
/-- X24. -/
theorem test_rdtab_255 : answer (exec (.rdtab 255) crc8Built) = some 0x0000000000000000F3 := by decide
/-- X25. -/
theorem test_rdtab_reset : answer (exec (.rdtab 0) State.reset) = some 0x040000000000000000 := by decide
/-- R123: 12 is stored although it is no legal width. -/
theorem test_wrbits : field (·.pBits) (exec (.wrbits 12) State.reset) = some 12 := by decide
/-- R124: an over-wide value is stored whole (2.2). -/
theorem test_wrpoly :
    field (·.pPoly) (exec (.wrpoly 0xFFFFFFFFFFFFFFFF) (staged 8 0 0 0 0)) = some 0xFFFFFFFFFFFFFFFF := by decide
/-- R125: a running ACC is not changed. -/
theorem test_wrinit :
    field (fun t => (t.pInit, t.acc)) (exec (.wrinit 0xFFFF) crc8Running) = some (0xFFFF, some 0x97) := by decide
/-- R126: E_XOR is not changed. -/
theorem test_wrxor :
    field (fun t => (t.pXor, t.eXor)) (exec (.wrxor 0xFFFFFFFF) crc8Engine) = some (0xFFFFFFFF, some 0) := by decide
/-- R127: T_REFL is not changed. -/
theorem test_wrrefl :
    field (fun t => (t.pRefl, t.tRefl)) (exec (.wrrefl 1) crc8Built) = some (1, some 0) := by decide
/-- R212's example. -/
theorem test_rdbits : answer (exec .rdbits (staged 12 0 0 0 0)) = some 0x00000000000000000C := by decide
/-- R213's example. -/
theorem test_rdpoly : answer (exec .rdpoly (staged 0 0x11021 0 0 0)) = some 0x000000000000011021 := by decide
/-- R214's example. -/
theorem test_rdinit : answer (exec .rdinit (staged 0 0 0x1D0F 0 0)) = some 0x000000000000001D0F := by decide
/-- B18. -/
theorem test_rdxor : answer (exec .rdxor (staged 0 0 0 0xFFFF 0)) = some 0x00000000000000FFFF := by decide
/-- R216's example. -/
theorem test_rdrefl : answer (exec .rdrefl (staged 0 0 0 0 1)) = some 0x000000000000000001 := by decide
/-- R217: after MKENG and START, 0x7; B43 has ERR = 0x04 beside it. -/
theorem test_rdstat :
    answer (exec .rdstat { crc8Running with err := 0x04 }) = some 0x000000000000000407 := by decide
/-- R217: after reset and a rejected START, 0x500. -/
theorem test_rdstat_err : answer (exec .rdstat { State.reset with err := 0x05 }) = some 0x000000000000000500 := by
  decide
/-- B29. -/
theorem test_rdtbits : answer (exec .rdtbits usbRunning) = some 0x000000000000000010 := by decide
/-- B30: in normal order, also for a reflected table. -/
theorem test_rdtpoly : answer (exec .rdtpoly usbRunning) = some 0x000000000000008005 := by decide
/-- B31. -/
theorem test_rdtrefl : answer (exec .rdtrefl usbRunning) = some 0x000000000000000001 := by decide
/-- X29. -/
theorem test_rdeinit :
    answer (exec .rdeinit (engine 16 0x1021 0x1D0F 0 0)) = some 0x000000000000001D0F := by decide
/-- B40. -/
theorem test_rdexor : answer (exec .rdexor usbRunning) = some 0x00000000000000FFFF := by decide
/-- B35. -/
theorem test_rdexor_no_engine : answer (exec .rdexor crc8Built) = some 0x050000000000000000 := by decide
/-- P4, row 9: all 64 bits. -/
theorem test_rdmask_64 :
    answer (exec .rdmask { State.reset with tValid := true, tBits := some 64 }) = some 0x00FFFFFFFFFFFFFFFF := by
  decide
/-- P4, row 10: 64 − 8. -/
theorem test_rdshift_64 :
    answer (exec .rdshift { State.reset with tValid := true, tBits := some 64 }) = some 0x000000000000000038 := by
  decide
/-- B44. -/
theorem test_rdacc : answer (exec .rdacc usbRunning) = some 0x00000000000000FFFF := by decide
/-- X28. -/
theorem test_rdacc_not_running : answer (exec .rdacc crc8Engine) = some 0x060000000000000000 := by decide

/-! ### Steps -/

/-- X2: an illegal word is answered ILLEGAL_CMD and sets ERR. -/
theorem test_step_illegal : field (·.err) (step (State.reset.withFetchWord 72 1)) = some 0x01 := by decide
/-- X33: an illegal word leaves a computation running. -/
theorem test_step_illegal_running :
    field (·.run) (step (crc8Running.withFetchWord 72 0x030000000000000001)) = some true := by decide
/-- R249: ERR keeps the first code (B24 after B8). -/
theorem test_err_sticky : field (·.err) (exec .start { State.reset with err := 0x04 }) = some 0x04 := by decide
/-- R270: reset clears ERR and ends the computation. -/
theorem test_step_rst :
    field (fun t => (t.err, t.run, t.pBits)) (step { crc8Running with err := 3, pBits := 8, inputs := [.rst] }) =
      some (0, false, 0) := by decide

/-! ### The functions, by the spec's worked values -/

/-- R105's worked value. -/
theorem test_reflect_64 : reflect 0x42F0E1EBA9EA3693 64 = 0xC96C5795D7870F42 := by decide
/-- 95_test_vectors.md 2.3, the trace of `tab_entry_nr(16, 0x1021, 0x2C)`. -/
theorem test_entry_nr : tabEntryNr 16 0x1021 0x2C = 0xE5EE := by decide
/-- 95_test_vectors.md 2.3, the trace of `tab_entry_r(16, 0x8005, 0xCE)`. -/
theorem test_entry_r : tabEntryR 16 0x8005 0xCE = 0x9481 := by decide
/-- 95_test_vectors.md 2.4: `cur << 8` loses 8 bits to the mask at width 64. -/
theorem test_update_64 :
    update 64 0 (tabEntry 64 0x42F0E1EBA9EA3693 0) 0xFFFFFFFFFFFFFFFF 0xFF = 0xFFFFFFFFFFFFFF00 := by decide
/-- K4. -/
theorem test_compute_usb : compute 16 0x8005 0xFFFF 0xFFFF 1 [0x31, 0x32, 0x33, 0x34, 0x35, 0x36, 0x37, 0x38, 0x39] =
    0xB4C8 := by decide
/-- R53: the big-endian bytes of 0xE5CC. -/
theorem test_beBytes : beBytes 16 0xE5CC = [0xE5, 0xCC] := by decide

/-! ### The assembler (30_encoding.md R78, R79) -/

/-- R124's example, with a comment. -/
theorem test_asm_wrpoly :
    assembleLine "WRPOLY 0x04C11DB7 ; CRC-32".toList = .ok [0x110000000004C11DB7] := by decide
/-- R78: an operand that does not fit is refused. -/
theorem test_asm_refuses : assembleLine "WRREFL 2".toList = .error .doesNotFit := by decide
/-- R79: `COMPUTE` with one byte. -/
theorem test_asm_compute :
    assembleLine "COMPUTE 0x31".toList =
      .ok [0x030000000000000000, 0x040000000000000031, 0x050000000000000000] := by decide
/-- R79: `CONFIG 16, 0x8005, 0xFFFF, 0xFFFF, 1` is the first five rows of 95_test_vectors.md 2.2. -/
theorem test_asm_config :
    assembleLine "CONFIG 16, 0x8005, 0xFFFF, 0xFFFF, 1".toList =
      .ok ((configCommands 16 0x8005 0xFFFF 0xFFFF 1).map encode) := by decide
/-- R79: the digits are 0x30 to 0x39. -/
theorem test_asm_string :
    assembleLine "STRING \"19\"".toList = .ok ((bytesCommands [0x31, 0x39]).map encode) := by decide

/-! ### Witnesses: the hypotheses of each obligation can be met together -/

theorem witness_EveryStepKeepsInvariants :
    crc8Engine.Inv ∧ step crc8Engine = .next crc8Engine := ⟨crc8Engine_inv, rfl⟩

theorem witness_EveryInputIsAnswered :
    State.Inv (crc8Running.setInputs [.cmd 0]) ∧ (crc8Running.setInputs [.cmd 0]).inputs = .cmd 0 :: [] :=
  ⟨⟨crc8Running_inv.1, crc8Running_inv.2, crc8Running_inv.3, crc8Running_inv.4, crc8Running_inv.5, crc8Running_inv.6,
    crc8Running_inv.7, crc8Running_inv.8, crc8Running_inv.9⟩, rfl⟩

theorem witness_StepRunsDecodedCommand :
    (crc8Running.setInputs [.cmd 0]).inputs = .cmd 0 :: [] ∧ decode 0 = .ok .nop ∧
      decode 1 = .error (.operandBreaks .N) := by decide

theorem witness_ResetInputAndIdle :
    (crc8Running.setInputs [.rst, .cmd 0]).inputs = .rst :: [.cmd 0] ∧ crc8Running.inputs = [] := by decide

theorem witness_DecodeIsTheOpcodeMap :
    WellFormed 0x0600000000000000FF = true ∧ WellFormed 0x060000000000000100 = false := by decide

theorem witness_IllegalWordsExactly :
    decode 0x060000000000000100 = .error (.operandBreaks .B) ∧
      decode 0x2E0000000000000000 = .error (.unassigned 0x2E) := by decide

theorem witness_IllegalDependsOnTheWordAlone :
    WellFormed 0x2E0000000000000000 = false ∧ exec .nop crc8Running = .next (crc8Running.respond 0) := ⟨by decide, rfl⟩

theorem witness_NoTwoRowsOverlap :
    (⟨0x06, "RDTAB", .B⟩ : OpcodeRow) ∈ opcodeRows ∧
      OpcodeRow.spells ⟨0x06, "RDTAB", .B⟩ 0x0600000000000000FF = true := by decide

theorem witness_ParameterWrites :
    (0xFF : Word).extractLsb' 8 56 = 0 ∧ (0x100 : Word).extractLsb' 8 56 ≠ 0 ∧
      (1 : Word).extractLsb' 1 63 = 0 ∧ (2 : Word).extractLsb' 1 63 ≠ 0 := by decide

theorem witness_ParameterWritesCommute :
    commandClass (.wrbits 8) = 1 ∧ commandClass (.wrpoly 7) = 1 ∧ opcode (.wrbits 8) ≠ opcode (.wrpoly 7) ∧
      opcode (.wrbits 8) = opcode (.wrbits 16) := by decide

theorem witness_StatusRead : crc8Running.Inv ∧ State.reset.Inv := ⟨crc8Running_inv, reset_inv⟩

theorem witness_TagReads :
    State.reset.Inv ∧ State.reset.tValid = false ∧ crc8Built.Inv ∧ crc8Built.tValid = true ∧ (1 : Word) ≠ 0 :=
  ⟨reset_inv, rfl, crc8Built_inv, rfl, by decide⟩

theorem witness_ViewReads :
    State.reset.Inv ∧ State.reset.tValid = false ∧ crc8Running.Inv ∧ crc8Running.tValid = true :=
  ⟨reset_inv, rfl, crc8Running_inv, rfl⟩

theorem witness_EngineReads :
    crc8Built.Inv ∧ crc8Built.eValid = false ∧ crc8Engine.Inv ∧ crc8Engine.eValid = true :=
  ⟨crc8Built_inv, rfl, crc8Engine_inv, rfl⟩

theorem witness_AccumulatorRead :
    crc8Engine.Inv ∧ crc8Engine.run = false ∧ crc8Running.Inv ∧ crc8Running.run = true :=
  ⟨crc8Engine_inv, rfl, crc8Running_inv, rfl⟩

theorem witness_TableEntryRead :
    State.reset.tValid = false ∧ crc8Built.Inv ∧ crc8Built.tValid = true := ⟨rfl, crc8Built_inv, rfl⟩

/-- The largest legal polynomial of width 8, and the first that is too wide (95_test_vectors.md 2.2). -/
theorem witness_BuildCommand :
    ((staged 8 0xFF 0 0 0).pBits.toNat ∈ [8, 16, 32, 64] ∧
      (staged 8 0xFF 0 0 0).pPoly.toNat < 2 ^ (staged 8 0xFF 0 0 0).pBits.toNat) ∧
    ¬((staged 8 0x100 0 0 0).pBits.toNat ∈ [8, 16, 32, 64] ∧
      (staged 8 0x100 0 0 0).pPoly.toNat < 2 ^ (staged 8 0x100 0 0 0).pBits.toNat) := by decide

/-- X9, and the same with the final XOR one too large (X11). -/
theorem witness_MakeEngineCommand :
    ((staged 8 0x07 0xFF 0xFF 0).pBits.toNat ∈ [8, 16, 32, 64] ∧ (staged 8 0x07 0xFF 0xFF 0).pPoly.toNat < 2 ^ 8 ∧
      (staged 8 0x07 0xFF 0xFF 0).pInit.toNat < 2 ^ 8 ∧ (staged 8 0x07 0xFF 0xFF 0).pXor.toNat < 2 ^ 8) ∧
    ¬((staged 8 0x07 0 0x100 0).pXor.toNat < 2 ^ 8) := by decide

theorem witness_StartCommand :
    crc8Built.eValid = false ∧ crc8Running.Inv ∧ crc8Running.eValid = true := ⟨rfl, crc8Running_inv, rfl⟩

/-- BYTE at 255, at 256, and while nothing runs. -/
theorem witness_ByteCommand :
    crc8Engine.run = false ∧ crc8Running.Inv ∧ crc8Running.run = true ∧ (255 : Word).toNat ≤ 255 ∧
      255 < (256 : Word).toNat := ⟨rfl, crc8Running_inv, rfl, by decide, by decide⟩

theorem witness_FinishCommand :
    crc8Engine.run = false ∧ crc8Running.Inv ∧ crc8Running.run = true := ⟨rfl, crc8Running_inv, rfl⟩

theorem witness_RejectChangesOnlyErr :
    exec .start State.reset = .next (State.reset.reject .engineNotReady) ∧
      exec .nop State.reset = .next (State.reset.respond 0) := ⟨rfl, rfl⟩

theorem witness_ErrKeepsFirstReject :
    runWord 0x030000000000000000 State.reset = .next (State.reset.reject .engineNotReady) := rfl

theorem witness_ErrInfluencesNothing :
    exec .start State.reset = .next (State.reset.reject .engineNotReady) ∧ Instr.start ≠ .rdstat ∧
      exec .rdtbits { State.reset with tValid := true } = .fault (.noValue .tBits) := ⟨rfl, by decide, rfl⟩

theorem witness_TableWrittenWhole :
    exec .build (staged 8 0x100 0 0 0) = .next ((staged 8 0x100 0 0 0).reject .invalidConfig) ∧
      exec .nop crc8Built = .next (crc8Built.respond 0) := ⟨rfl, rfl⟩

theorem witness_MemoryStaysCanonical :
    Memory.wf crc8Built.table ∧ step crc8Built = .next crc8Built := ⟨wf_buildTable _ _ _, rfl⟩

theorem witness_StagingWrittenByHostOnly :
    commandClass .start ≠ 1 ∧ exec .start State.reset = .next (State.reset.reject .engineNotReady) :=
  ⟨by decide, rfl⟩

theorem witness_ReadsChangeNothing :
    readsOnly .rdpoly = true ∧ exec .rdpoly crc8Running = .next (crc8Running.respond 0) ∧
      readsOnly .rdacc = true ∧ exec .rdacc State.reset = .next (State.reset.reject .notRunning) :=
  ⟨by decide, rfl, by decide, rfl⟩

theorem witness_EngineIsImmutable :
    Instr.nop ≠ .mkeng ∧ exec .nop crc8Engine = .next (crc8Engine.respond 0) ∧ crc8Engine.eValid = true ∧
      (crc8Engine.respond 0).eValid = true := ⟨by decide, rfl, rfl, rfl⟩

theorem witness_FlagsChangeOnlyAsStated :
    exec .start crc8Engine = .next ((crc8Engine.beginRun 0).respond 0) ∧ crc8Engine.run = false ∧
      ((crc8Engine.beginRun 0).respond 0).run = true := ⟨rfl, rfl, rfl⟩

theorem witness_MaskShiftHighBit : 64 ∈ [8, 16, 32, 64] ∧ 2 ^ 64 - 1 < 2 ^ 64 := by decide

theorem witness_ReflectReversesBits : 1 ≤ 8 ∧ 0x80 < 2 ^ 8 ∧ 7 < 8 ∧ 8 ≤ 8 := by decide

theorem witness_ReflectLaws : 1 ≤ 64 ∧ 2 ^ 64 - 1 < 2 ^ 64 ∧ 0x1B < 2 ^ 64 := by decide

theorem witness_TableProperties :
    validBuild 8 0xFF = true ∧ validBuild 64 0xFFFFFFFFFFFFFFFF = true ∧ validBuild 8 0 = true ∧ 255 < 256 := by decide

theorem witness_EntryIsPolynomialRemainder : validBuild 16 0x1021 = true ∧ 255 < 256 := by decide

theorem witness_ConstructionsMirror : validBuild 32 0x04C11DB7 = true ∧ 255 < 256 := by decide

theorem witness_BoundedRegisterSameEntry : validBuild 64 0xFFFFFFFFFFFFFFFF = true ∧ 255 < 256 := by decide

theorem witness_UpdateRules :
    validBits 8 = true ∧ (∀ i, i < 256 → (fun _ : Nat => 0xFF) i < 2 ^ 8) ∧ 0xFF < 2 ^ 8 ∧ 0xFF < 256 ∧
      validBits 16 = true := ⟨by decide, fun _ _ => by norm_num, by decide, by decide, by decide⟩

theorem witness_UpdateIsBitSerialDivision :
    validBuild 64 0x42F0E1EBA9EA3693 = true ∧ 2 ^ 64 - 1 < 2 ^ 64 ∧ 255 < 256 := by decide

theorem witness_UpdateIsLinear : validBuild 16 0x8005 = true ∧ 0xFFFF < 2 ^ 16 ∧ 255 < 256 := by decide

theorem witness_ComputeEmptyAndWidth :
    validConfig 8 0x07 0xFF 0xFF = true ∧ AllBytes [0x00, 0xFF] := by
  refine ⟨by decide, ?_⟩
  simp [AllBytes]

/-- An engine; a computation of the byte 0x31 with a read and a rejected word beside it (CRC-8, 43_crc_engine.md R170:
the accumulator is then 0x97); an MKENG that succeeds; a command that leaves the engine. -/
theorem witness_CommandSequenceComputes :
    HasEngine 8 0x07 0 0 0 crc8Engine ∧
      (∃ s₂, Interleaved [0x31] ((crc8Engine.beginRun 0).respond 0) s₂ ∧
        s₂ = (((((crc8Engine.beginRun 0).respond 0).respond 0).reject .illegalCmd).setAcc 0x97).respond 0) ∧
      runWord (encode .mkeng) (staged 8 0x07 0 0 0) =
        .next ((staged 8 0x07 0 0 0).buildFromStaging.installEngine.endRun.respond 0) ∧
      (runWord (encode .nop) crc8Engine = .next (crc8Engine.respond 0) ∧ decode (encode .nop) = .ok .nop) := by
  refine ⟨⟨rfl, rfl, rfl, rfl, rfl, rfl, rfl, rfl, by decide⟩, ⟨_, ?_, rfl⟩, rfl, rfl, by decide⟩
  refine .between .rdacc [0x31] _ _ _ (by decide) rfl ?_
  refine .rejected 1 [0x31] _ _ _ ⟨.illegalCmd, rfl, rfl⟩ ?_
  exact .byte 0x31 [] _ _ _ rfl (.done _)

theorem witness_CheckCrcGivesZero : validConfig 8 0x07 0xFF 0 = true ∧ AllBytes [] := by
  refine ⟨by decide, ?_⟩
  simp [AllBytes]

theorem witness_CheckCrcResidue : validConfig 32 0x04C11DB7 0xFFFFFFFF 0xFFFFFFFF = true ∧ AllBytes [0x31] := by
  refine ⟨by decide, ?_⟩
  simp [AllBytes]

theorem witness_ReflectionSymmetry : validConfig 16 0x1234 0 0 = true ∧ AllBytes [0x31, 0x32] := by
  refine ⟨by decide, ?_⟩
  simp [AllBytes]

theorem witness_ResponseAfterLatency :
    (⟨State.reset, .ready⟩ : Clocked).phase = .ready ∧ runWord 0 State.reset = .next (State.reset.respond 0) ∧
      (∀ q ∈ ([] : List Pins), q.rst = false) ∧ (⟨false, false, 0⟩ : Pins).rst = false ∧
      ([] : List Pins).length < latency 0 :=
  ⟨rfl, rfl, by simp, rfl, Nat.succ_pos _⟩

theorem witness_ResetAbandonsCommand : (⟨true, true, 0⟩ : Pins).rst = true := rfl

theorem witness_AssemblerEncodesAndRefuses :
    (⟨0x06, "RDTAB", .B⟩ : OpcodeRow) ∈ opcodeRows ∧ Format.B ≠ .N ∧ Format.B.fits 255 = true ∧
      Format.B.fits 256 = false ∧ (⟨0x00, "NOP", .N⟩ : OpcodeRow) ∈ opcodeRows := by decide

end Sys2Proof.Tests
end

section
/-!
SUPPORT. What a command can do, said once: an inversion lemma for `exec`, for `runWord` and for `step`
(60_exceptions.md R249: a command makes all of its assignments and responds, or is rejected).
-/

namespace Sys2Proof.Machine

variable {s t u : State} {i : Instr} {cw : CmdWord} {d : Word} {α : Type}

/-- The assignments of a command that is not rejected: `i` in `s` leaves `u`, before its response is given. The
premises are the guards under which the command comes to its assignments. -/
inductive Assigns (s : State) : Instr → State → Prop
  /-- NOP, RDTAB and the RD* commands assign nothing (44_readback.md R210, R211, 42_table_builder.md R146). -/
  | read {i : Instr} (hi : readsOnly i = true) : Assigns s i s
  /-- 42_table_builder.md R145 -/
  | build (hv : validBuild s.pBits.toNat s.pPoly.toNat = true) :
      Assigns s .build s.buildFromStaging.endEngine.endRun
  /-- 43_crc_engine.md R178 -/
  | mkeng (hv : validConfig s.pBits.toNat s.pPoly.toNat s.pInit.toNat s.pXor.toNat = true) :
      Assigns s .mkeng s.buildFromStaging.installEngine.endRun
  /-- 43_crc_engine.md R179 -/
  | start {a : Word} (he : s.eValid = true) (ha : s.eInit = some a) : Assigns s .start (s.beginRun a)
  /-- 43_crc_engine.md R180 -/
  | byte {v cur entry : Word} {b : Byte} {refl : Bit} (hr : s.run = true) (hv : v.toNat ≤ 255)
      (hacc : s.acc = some cur) (hb : s.tBits = some b) (hlegal : validBits b.toNat = true)
      (hrefl : s.tRefl = some refl)
      (hentry : tabRead s.table (updateIndex b.toNat refl cur.toNat v.toNat) = some entry) :
      Assigns s (.byte v) (s.setAcc (BitVec.ofNat 64 (updateNext b.toNat refl cur.toNat entry.toNat)))
  /-- 43_crc_engine.md R181 -/
  | finish (hr : s.run = true) : Assigns s .finish s.endRun
  /-- 41_parameters.md R123 -/
  | wrbits (b : Byte) : Assigns s (.wrbits b) (s.setPBits b)
  /-- 41_parameters.md R124 -/
  | wrpoly (v : Word) : Assigns s (.wrpoly v) (s.setPPoly v)
  /-- 41_parameters.md R125 -/
  | wrinit (v : Word) : Assigns s (.wrinit v) (s.setPInit v)
  /-- 41_parameters.md R126 -/
  | wrxor (v : Word) : Assigns s (.wrxor v) (s.setPXor v)
  /-- 41_parameters.md R127 -/
  | wrrefl (f : Bit) : Assigns s (.wrrefl f) (s.setPRefl f)

/-- The two ways a decoded command ends: rejected, never with ILLEGAL_CMD (60_exceptions.md R242), or completed with
its assignments made and a response given. -/
inductive Ends (s : State) (i : Instr) : State → Prop
  | rejected (why : Reject) (hwhy : why ≠ .illegalCmd) : Ends s i (s.reject why)
  | completed {u : State} (d : Word) (hu : Assigns s i u) : Ends s i (u.respond d)

theorem Ends.of_raise {why : Reject} (hwhy : why ≠ .illegalCmd) (h : raise why s = .next t) : Ends s i t := by
  rw [raise_next] at h
  exact h ▸ .rejected why hwhy

theorem Ends.of_complete (hu : Assigns s i u) (h : complete d u = .next t) : Ends s i t := by
  rw [complete_next] at h
  exact h ▸ .completed d hu

theorem Ends.of_needs {flag : Bool} {why : Reject} {go : Host.Outcome State Fault Refusal}
    (hwhy : why ≠ .illegalCmd) (h : needs flag why s go = .next t)
    (hgo : flag = true → go = .next t → Ends s i t) : Ends s i t := by
  obtain ⟨hflag, hnext⟩ | ⟨-, rfl⟩ := needs_next.mp h
  · exact hgo hflag hnext
  · exact .rejected why hwhy

/-- A read under a flag, of a component that can be without a value. -/
theorem Ends.of_guardedRead {flag : Bool} {why : Reject} {r : Option α} {what : Guarded} {data : α → Word}
    (hwhy : why ≠ .illegalCmd) (hi : readsOnly i = true)
    (h : needs flag why s (withValue r what fun a => complete (data a) s) = .next t) : Ends s i t := by
  refine .of_needs hwhy h fun _ hgo => ?_
  obtain ⟨a, -, hnext⟩ := withValue_next.mp hgo
  exact .of_complete (.read hi) hnext

/-- A read under a flag, of a view of the width. -/
theorem Ends.of_widthRead {flag : Bool} {why : Reject} {data : Nat → Word}
    (hwhy : why ≠ .illegalCmd) (hi : readsOnly i = true)
    (h : needs flag why s (withWidth s fun bits => complete (data bits) s) = .next t) : Ends s i t := by
  refine .of_needs hwhy h fun _ hgo => ?_
  obtain ⟨b, -, -, hnext⟩ := withWidth_next.mp hgo
  exact .of_complete (.read hi) hnext

theorem execBuild_ends (h : execBuild s = .next t) : Ends s .build t := by
  unfold execBuild at h
  split at h
  case isTrue hv => exact .of_complete (.build hv) h
  case isFalse => exact .of_raise (by decide) h

theorem execMkeng_ends (h : execMkeng s = .next t) : Ends s .mkeng t := by
  unfold execMkeng at h
  split at h
  case isTrue hv => exact .of_complete (.mkeng hv) h
  case isFalse => exact .of_raise (by decide) h

theorem execStart_ends (h : execStart s = .next t) : Ends s .start t := by
  refine .of_needs (by decide) h fun he hgo => ?_
  obtain ⟨a, ha, hnext⟩ := withValue_next.mp hgo
  exact .of_complete (.start he ha) hnext

theorem execByte_ends {v : Word} (h : execByte v s = .next t) : Ends s (.byte v) t := by
  refine .of_needs (by decide) h fun hr hgo => ?_
  obtain ⟨hv, hfold⟩ | ⟨-, rfl⟩ := needsByte_next.mp hgo
  · obtain ⟨cur, hacc, hwidth⟩ := withValue_next.mp hfold
    obtain ⟨b, hb, hlegal, htag⟩ := withWidth_next.mp hwidth
    obtain ⟨refl, hrefl, hread⟩ := withValue_next.mp htag
    obtain ⟨entry, hentry, hnext⟩ := withValue_next.mp hread
    exact .of_complete (.byte hr hv hacc hb hlegal hrefl hentry) hnext
  · exact .rejected .invalidByte (by decide)

theorem execFinish_ends (h : execFinish s = .next t) : Ends s .finish t := by
  refine .of_needs (by decide) h fun hr hgo => ?_
  obtain ⟨a, -, hxor⟩ := withValue_next.mp hgo
  obtain ⟨x, -, hnext⟩ := withValue_next.mp hxor
  exact .of_complete (.finish hr) hnext

/-- Everything a command that answers a next state can do. -/
theorem exec_ends (h : exec i s = .next t) : Ends s i t := by
  cases i with
  | nop => exact .of_complete (.read (by decide)) h
  | build => exact execBuild_ends h
  | mkeng => exact execMkeng_ends h
  | start => exact execStart_ends h
  | byte v => exact execByte_ends h
  | finish => exact execFinish_ends h
  | rdtab b => exact .of_guardedRead (by decide) rfl h
  | wrbits b => exact .of_complete (.wrbits b) h
  | wrpoly v => exact .of_complete (.wrpoly v) h
  | wrinit v => exact .of_complete (.wrinit v) h
  | wrxor v => exact .of_complete (.wrxor v) h
  | wrrefl f => exact .of_complete (.wrrefl f) h
  | rdbits => exact .of_complete (.read (by decide)) h
  | rdpoly => exact .of_complete (.read (by decide)) h
  | rdinit => exact .of_complete (.read (by decide)) h
  | rdxor => exact .of_complete (.read (by decide)) h
  | rdrefl => exact .of_complete (.read (by decide)) h
  | rdstat => exact .of_complete (.read (by decide)) h
  | rdtbits => exact .of_guardedRead (by decide) (by decide) h
  | rdtpoly => exact .of_guardedRead (by decide) (by decide) h
  | rdtrefl => exact .of_guardedRead (by decide) (by decide) h
  | rdeinit => exact .of_guardedRead (by decide) (by decide) h
  | rdexor => exact .of_guardedRead (by decide) (by decide) h
  | rdmask => exact .of_widthRead (by decide) (by decide) h
  | rdshift => exact .of_widthRead (by decide) (by decide) h
  | rdacc => exact .of_guardedRead (by decide) (by decide) h

/-- Everything a command word that answers a next state can do. -/
theorem runWord_ends (h : runWord cw s = .next t) :
    (∃ i, decode cw = .ok i ∧ Ends s i t) ∨ ((∃ e, decode cw = .error e) ∧ t = s.reject .illegalCmd) := by
  cases hd : decode cw with
  | ok i => exact .inl ⟨i, rfl, exec_ends (runWord_of_ok hd s ▸ h)⟩
  | error e =>
    rw [runWord_of_error hd] at h
    exact .inr ⟨⟨e, rfl⟩, by simpa using h.symm⟩

/-- Everything a step that answers a next state can do: idle, a command word, or reset. -/
theorem step_next (h : step s = .next t) :
    (s.inputs = [] ∧ t = s) ∨
    (∃ cw rest, s.inputs = .cmd cw :: rest ∧ runWord cw (s.setInputs rest) = .next t) ∨
    (∃ rest, s.inputs = .rst :: rest ∧ t = (s.setInputs rest).applyReset) := by
  unfold step at h
  match hin : s.inputs with
  | [] =>
    rw [advance_idle hin] at h
    exact .inl ⟨rfl, by simpa using h.symm⟩
  | .cmd cw :: rest => exact .inr (.inl ⟨cw, rest, rfl, advance_cmd hin ▸ h⟩)
  | .rst :: rest =>
    rw [advance_rst hin] at h
    exact .inr (.inr ⟨rest, rfl, by simpa using h.symm⟩)

/-- What every step of a machine keeps, every run of it keeps. -/
theorem run_keeps {M : Host.Core} {P : M.State → Prop} (hstep : ∀ s t, P s → M.step s = .next t → P t) :
    ∀ (n : Nat) {s t : M.State}, P s → M.run n s = .next t → P t := by
  intro n
  induction n with
  | zero =>
    intro s t hs h
    cases h
    exact hs
  | succ n ih =>
    intro s t hs h
    unfold Host.Core.run at h
    split at h
    case h_1 s' hs' => exact ih (hstep s s' hs hs') h
    case h_2 => cases h
    case h_3 => cases h

end Sys2Proof.Machine
end

section
/-!
PROOFS. The invariants of 10_state.md R44: each operation over the state that keeps them, then every command, every
command word, every step and every run.
-/

namespace Sys2Proof.Machine

variable {s t u : State} {i : Instr} {cw : CmdWord}

/-! ### Values below `2^bits` -/

theorem and_mask_lt (v bits : Nat) : v &&& mask bits < 2 ^ bits := by
  rw [mask, Nat.and_two_pow_sub_one_eq_mod]
  exact Nat.mod_lt v (Nat.two_pow_pos bits)

theorem tabEntry_lt (bits poly : Nat) (refl : Bit) (d : Nat) : tabEntry bits poly refl d < 2 ^ bits := by
  unfold tabEntry
  split
  · exact and_mask_lt _ _
  · exact and_mask_lt _ _

/-- One update step stays below `2^bits` when the entry it reads does (43_crc_engine.md R174). -/
theorem updateNext_lt {bits entry : Nat} (refl : Bit) (cur : Nat) (he : entry < 2 ^ bits) :
    updateNext bits refl cur entry < 2 ^ bits := by
  unfold updateNext
  split
  · exact he
  · split
    · exact and_mask_lt _ _
    · exact and_mask_lt _ _

/-- Storing a number in 64 bits does not make it larger. -/
theorem toNat_ofNat_lt {n bound : Nat} (h : n < bound) : (BitVec.ofNat 64 n).toNat < bound :=
  (BitVec.toNat_ofNat n 64).trans_le (Nat.mod_le n (2 ^ 64)) |>.trans_lt h

/-- Every entry that a built table holds is below `2^bits` (42_table_builder.md R144 (a)). -/
theorem toNat_lt_of_tabRead_buildTable {bits poly d : Nat} {refl : Bit} {e : Word}
    (h : tabRead (buildTable bits poly refl) d = some e) : e.toNat < 2 ^ bits := by
  rw [tabRead_buildTable] at h
  split at h
  · cases h
    exact toNat_ofNat_lt (tabEntry_lt _ _ _ _)
  · cases h

/-! ### Validity -/

theorem validConfig_iff {bits poly init xor : Nat} :
    validConfig bits poly init xor = true ↔
      validBuild bits poly = true ∧ init < 2 ^ bits ∧ xor < 2 ^ bits := by
  simp [validConfig, validBuild, and_assoc]

/-! ### The operations over the state -/

/-- The invariants do not speak of the staging registers and the port, and of `ERR` only its range. -/
theorem State.Inv.outsideGuards (h : s.Inv) (b : Byte) (p i x : Word) (f : Bit) (e : Byte) (l : List Input)
    (r : List RspWord) (he : e.toNat ≤ 6) :
    State.Inv { s with pBits := b, pPoly := p, pInit := i, pXor := x, pRefl := f, err := e, inputs := l, rsps := r } :=
  { h with err_code := he }

theorem State.Inv.respond (h : s.Inv) (d : Word) : (s.respond d).Inv := h.outsideGuards _ _ _ _ _ _ _ _ h.err_code

theorem State.Inv.setInputs (h : s.Inv) (l : List Input) : (s.setInputs l).Inv :=
  h.outsideGuards _ _ _ _ _ _ _ _ h.err_code

theorem rejectCode_le (why : Reject) : (rejectCode why).toNat ≤ 6 := by cases why <;> decide

theorem State.Inv.reject (h : s.Inv) (why : Reject) : (s.reject why).Inv := by
  refine h.outsideGuards _ _ _ _ _ _ _ _ ?_
  split
  · exact rejectCode_le why
  · exact h.err_code

theorem State.inv_applyReset (s : State) : s.applyReset.Inv where
  run_needs_engine := nofun
  engine_needs_table := nofun
  table_built := nofun
  table_absent _ := ⟨rfl, rfl, rfl, rfl⟩
  engine_fits := nofun
  engine_absent _ := ⟨rfl, rfl⟩
  acc_fits := nofun
  acc_absent _ := rfl
  err_code := Nat.zero_le 6

/-- A successful BUILD (42_table_builder.md R145), whatever table and engine there were. -/
theorem State.inv_build (hv : validBuild s.pBits.toNat s.pPoly.toNat = true) (he : s.err.toNat ≤ 6) :
    s.buildFromStaging.endEngine.endRun.Inv where
  run_needs_engine := nofun
  engine_needs_table := nofun
  table_built _ := ⟨s.pBits, s.pPoly, s.pRefl, rfl, rfl, rfl, hv, rfl⟩
  table_absent := nofun
  engine_fits := nofun
  engine_absent _ := ⟨rfl, rfl⟩
  acc_fits := nofun
  acc_absent _ := rfl
  err_code := he

/-- A successful MKENG (43_crc_engine.md R178), whatever table and engine there were. -/
theorem State.inv_mkeng (hv : validConfig s.pBits.toNat s.pPoly.toNat s.pInit.toNat s.pXor.toNat = true)
    (he : s.err.toNat ≤ 6) : s.buildFromStaging.installEngine.endRun.Inv where
  run_needs_engine := nofun
  engine_needs_table _ := rfl
  table_built _ := ⟨s.pBits, s.pPoly, s.pRefl, rfl, rfl, rfl, (validConfig_iff.mp hv).1, rfl⟩
  table_absent := nofun
  engine_fits _ := ⟨s.pBits, s.pInit, s.pXor, rfl, rfl, rfl, (validConfig_iff.mp hv).2⟩
  engine_absent := nofun
  acc_fits := nofun
  acc_absent _ := rfl
  err_code := he

/-- A computation begins or goes on with a value that fits the width of the engine. -/
theorem State.Inv.beginRun {b : Byte} {a : Word} (h : s.Inv) (he : s.eValid = true) (hb : s.tBits = some b)
    (ha : a.toNat < 2 ^ b.toNat) : (s.beginRun a).Inv :=
  { h with
    run_needs_engine := fun _ => he
    acc_fits := fun _ => ⟨b, a, hb, rfl, ha⟩
    acc_absent := nofun }

theorem State.Inv.endRun (h : s.Inv) : s.endRun.Inv :=
  { h with
    run_needs_engine := nofun
    acc_fits := nofun
    acc_absent := fun _ => rfl }

/-- While a computation is in progress, a write of `ACC` is the restart of it with that value. -/
theorem State.setAcc_eq_beginRun (hr : s.run = true) (a : Word) : s.setAcc a = s.beginRun a := by
  simp [State.setAcc, State.beginRun, ← hr]

/-! ### What the invariants give a command -/

/-- Every value read from the table is below `2^T_BITS`. -/
theorem State.Inv.tabRead_lt {b : Byte} {d : Nat} {e : Word} (h : s.Inv) (ht : s.tValid = true)
    (hb : s.tBits = some b) (hd : tabRead s.table d = some e) : e.toNat < 2 ^ b.toNat := by
  obtain ⟨b', p, f, hb', -, -, -, htab⟩ := h.table_built ht
  obtain rfl : b' = b := by simpa [hb] using hb'.symm
  exact toNat_lt_of_tabRead_buildTable (htab ▸ hd)

theorem State.Inv.eInit_lt {a : Word} (h : s.Inv) (he : s.eValid = true) (ha : s.eInit = some a) :
    ∃ b, s.tBits = some b ∧ a.toNat < 2 ^ b.toNat := by
  obtain ⟨b, i, x, hb, hi, -, hlt, -⟩ := h.engine_fits he
  obtain rfl : i = a := by simpa [ha] using hi.symm
  exact ⟨b, hb, hlt⟩

/-! ### Commands, command words, steps and runs -/

theorem Assigns.inv (hu : Assigns s i u) (h : s.Inv) : u.Inv := by
  cases hu with
  | read => exact h
  | build hv => exact State.inv_build hv h.err_code
  | mkeng hv => exact State.inv_mkeng hv h.err_code
  | start he ha =>
    obtain ⟨b, hb, hlt⟩ := h.eInit_lt he ha
    exact h.beginRun he hb hlt
  | byte hr hv hacc hb hlegal hrefl hentry =>
    have he := h.run_needs_engine hr
    have hlt := h.tabRead_lt (h.engine_needs_table he) hb hentry
    rw [State.setAcc_eq_beginRun hr]
    exact h.beginRun he hb (toNat_ofNat_lt (updateNext_lt _ _ hlt))
  | finish => exact h.endRun
  | wrbits | wrpoly | wrinit | wrxor | wrrefl => exact h.outsideGuards _ _ _ _ _ _ _ _ h.err_code

theorem Ends.inv (ht : Ends s i t) (h : s.Inv) : t.Inv := by
  cases ht with
  | rejected why => exact h.reject why
  | completed d hu => exact (hu.inv h).respond d

theorem runWord_keeps_inv (ht : runWord cw s = .next t) (h : s.Inv) : t.Inv := by
  obtain ⟨i, -, hi⟩ | ⟨-, rfl⟩ := runWord_ends ht
  · exact hi.inv h
  · exact h.reject .illegalCmd

theorem step_keeps_inv (s t : State) (h : s.Inv) (ht : step s = .next t) : t.Inv := by
  obtain ⟨-, rfl⟩ | ⟨cw, rest, -, hcw⟩ | ⟨rest, -, rfl⟩ := step_next ht
  · exact h
  · exact runWord_keeps_inv hcw (h.setInputs rest)
  · exact State.inv_applyReset _

/-- Settles O2: the reset state is what `rst` leaves of itself. -/
theorem resetMeetsInvariants : Obligations.ResetMeetsInvariants := State.inv_applyReset State.reset

/-- Settles O3: each step keeps the invariants, and a run from reset is a sequence of steps. -/
theorem everyStepKeepsInvariants : Obligations.EveryStepKeepsInvariants := by
  refine ⟨step_keeps_inv, fun l n t ht => ?_⟩
  have hreset : (State.reset.setInputs l).Inv := State.Inv.setInputs resetMeetsInvariants l
  exact run_keeps step_keeps_inv n hreset ht

end Sys2Proof.Machine
end

section
/-!
PROOFS. What each command leaves unchanged and which flags it changes (10_state.md R21, R24, R27, R30, R32, R35, R37),
and the reset state (R42).
-/

namespace Sys2Proof.Machine

variable {s t u : State} {i : Instr}

/-! ### The assignments of a command, by component -/

theorem Assigns.err_eq (hu : Assigns s i u) : u.err = s.err := by cases hu <;> rfl

theorem Assigns.rsps_eq (hu : Assigns s i u) : u.rsps = s.rsps := by cases hu <;> rfl

/-- The parameter writes are the class 0x1; no other command assigns a staging register. -/
theorem Assigns.sameStaging (hu : Assigns s i u) (hi : commandClass i ≠ 1) : SameStaging s u := by
  cases hu with
  | wrbits | wrpoly | wrinit | wrxor | wrrefl => exact absurd (by simp [commandClass, opcode]) hi
  | _ => exact ⟨rfl, rfl, rfl, rfl, rfl⟩

/-- A command other than MKENG that leaves an engine has assigned neither the table nor the engine registers: BUILD,
the only other one that does, ends the engine. -/
theorem Assigns.sameEngine (hu : Assigns s i u) (hm : i ≠ .mkeng) (he : u.eValid = true) :
    SameTable s u ∧ u.eInit = s.eInit ∧ u.eXor = s.eXor := by
  cases hu with
  | mkeng => exact (hm rfl).elim
  | build => exact Bool.noConfusion he
  | _ => exact ⟨⟨rfl, rfl, rfl, rfl, rfl⟩, rfl, rfl⟩

theorem Assigns.tValid_cases (hu : Assigns s i u) :
    u.tValid = s.tValid ∨ (u.tValid = true ∧ (i = .build ∨ i = .mkeng)) := by
  cases hu with
  | build => exact .inr ⟨rfl, .inl rfl⟩
  | mkeng => exact .inr ⟨rfl, .inr rfl⟩
  | _ => exact .inl rfl

theorem Assigns.eValid_cases (hu : Assigns s i u) :
    u.eValid = s.eValid ∨ (u.eValid = true ∧ i = .mkeng) ∨ (u.eValid = false ∧ i = .build) := by
  cases hu with
  | mkeng => exact .inr (.inl ⟨rfl, rfl⟩)
  | build => exact .inr (.inr ⟨rfl, rfl⟩)
  | _ => exact .inl rfl

/-- A BYTE leaves `RUN` as it found it, at 1. -/
theorem Assigns.run_cases (hu : Assigns s i u) :
    u.run = s.run ∨ (u.run = true ∧ i = .start) ∨
      (u.run = false ∧ (i = .finish ∨ i = .build ∨ i = .mkeng)) := by
  cases hu with
  | start => exact .inr (.inl ⟨rfl, rfl⟩)
  | finish => exact .inr (.inr ⟨rfl, .inl rfl⟩)
  | build => exact .inr (.inr ⟨rfl, .inr (.inl rfl)⟩)
  | mkeng => exact .inr (.inr ⟨rfl, .inr (.inr rfl)⟩)
  | _ => exact .inl rfl

/-! ### Rejects and ERR -/

theorem rejectCode_ne_zero (why : Reject) : rejectCode why ≠ 0 := by cases why <;> decide

/-- One response is given, and `ERR` follows its status (10_state.md R37). -/
def AnswersWithErr (s t : State) : Prop :=
  ∃ st d, t.rsps = s.rsps ++ [rspWord st d] ∧ t.err = if st ≠ 0 ∧ s.err = 0 then st else s.err

theorem State.reject_answersWithErr (s : State) (why : Reject) : AnswersWithErr s (s.reject why) :=
  ⟨rejectCode why, 0, rfl, by
    simp only [State.reject_err, ne_eq, rejectCode_ne_zero, not_false_eq_true, true_and]⟩

theorem Ends.answersWithErr (ht : Ends s i t) : AnswersWithErr s t := by
  cases ht with
  | rejected why => exact s.reject_answersWithErr why
  | completed d hu => exact ⟨0, d, by simp [hu.rsps_eq], by simp [hu.err_eq]⟩

/-! ### The obligations -/

/-- Settles O1: BUILD and MKENG are rejected because width 0 is not legal. -/
theorem resetStateAsGiven : Obligations.ResetStateAsGiven := by
  have hBuild : validBuild State.reset.pBits.toNat State.reset.pPoly.toNat = false := by decide
  have hConfig : validConfig State.reset.pBits.toNat State.reset.pPoly.toNat State.reset.pInit.toNat
      State.reset.pXor.toNat = false := by decide
  refine ⟨⟨rfl, rfl, rfl, rfl, rfl⟩, ⟨rfl, rfl, rfl, rfl⟩, ⟨fun _ => rfl, rfl, rfl, rfl, rfl, rfl, rfl⟩,
    by decide, ?_, ?_⟩
  · show execBuild State.reset = _
    simp [execBuild, hBuild]
  · show execMkeng State.reset = _
    simp [execMkeng, hConfig]

/-- Settles O29: a reject puts its code into an `ERR` of 0, and a completed command leaves `ERR`. -/
theorem errKeepsFirstReject : Obligations.ErrKeepsFirstReject := by
  refine ⟨fun cw s t h => ?_, fun _ => rfl, rfl⟩
  obtain ⟨i, -, hi⟩ | ⟨-, rfl⟩ := runWord_ends h
  · exact hi.answersWithErr
  · exact s.reject_answersWithErr .illegalCmd

/-- Settles O33: a reject changes no staging register, nor does a command of another class. -/
theorem stagingWrittenByHostOnly : Obligations.StagingWrittenByHostOnly := by
  intro i s t hi h
  cases exec_ends h with
  | rejected why => exact ⟨rfl, rfl, rfl, rfl, rfl⟩
  | completed d hu => exact hu.sameStaging hi

/-- Settles O35: a reject changes none of these components, and BUILD leaves no engine. -/
theorem engineIsImmutable : Obligations.EngineIsImmutable := by
  intro i s t hm h _ he
  cases exec_ends h with
  | rejected why => exact ⟨⟨rfl, rfl, rfl, rfl, rfl⟩, rfl, rfl⟩
  | completed d hu => exact hu.sameEngine hm he

/-- Settles O36: a reject changes no flag, and each flag has its own commands. -/
theorem flagsChangeOnlyAsStated : Obligations.FlagsChangeOnlyAsStated := by
  intro i s t h
  cases exec_ends h with
  | rejected why => simp +contextual
  | completed d hu =>
    have hT := hu.tValid_cases
    have hE := hu.eValid_cases
    have hR := hu.run_cases
    simp only [State.respond_tValid, State.respond_eValid, State.respond_run]
    grind

end Sys2Proof.Machine
end

section
/-!
PROOFS. The table memory and the order of commands (20_memory.md R50, R58): every step keeps the canonical form of the
table, and a step at a command word runs the decoded command.
-/

namespace Sys2Proof.Machine

variable {s t u : State} {i : Instr} {cw : CmdWord}

/-! ### The canonical form of the table -/

/-- Only BUILD and MKENG assign the table, and they assign a whole built table. -/
theorem Assigns.table_cases (hu : Assigns s i u) :
    u.table = s.table ∨
      (u.table = buildTable s.pBits.toNat s.pPoly.toNat s.pRefl ∧ (i = .build ∨ i = .mkeng)) := by
  cases hu with
  | build => exact .inr ⟨rfl, .inl rfl⟩
  | mkeng => exact .inr ⟨rfl, .inr rfl⟩
  | _ => exact .inl rfl

theorem Assigns.wf_table (hu : Assigns s i u) (h : Memory.wf s.table) : Memory.wf u.table := by
  obtain hkept | ⟨hbuilt, -⟩ := hu.table_cases
  · rwa [hkept]
  · rw [hbuilt]
    exact wf_buildTable _ _ _

theorem Ends.wf_table (ht : Ends s i t) (h : Memory.wf s.table) : Memory.wf t.table := by
  cases ht with
  | rejected why => exact h
  | completed d hu => exact hu.wf_table h

theorem runWord_keeps_wf_table (ht : runWord cw s = .next t) (h : Memory.wf s.table) : Memory.wf t.table := by
  obtain ⟨i, -, hi⟩ | ⟨-, rfl⟩ := runWord_ends ht
  · exact hi.wf_table h
  · exact h

theorem step_keeps_wf_table (s t : State) (h : Memory.wf s.table) (ht : step s = .next t) :
    Memory.wf t.table := by
  obtain ⟨-, rfl⟩ | ⟨cw, rest, -, hcw⟩ | ⟨rest, -, rfl⟩ := step_next ht
  · exact h
  · exact runWord_keeps_wf_table hcw h
  · exact wf_reset

/-! ### A step at a command word -/

theorem step_cmd {rest : List Input} (h : s.inputs = .cmd cw :: rest) :
    step s = runWord cw (s.setInputs rest) := advance_cmd h

/-! ### The obligations -/

/-- Settles O32: a step leaves the table alone, empties it, or replaces it by a built one. -/
theorem memoryStaysCanonical : Obligations.MemoryStaysCanonical := ⟨wf_reset, step_keeps_wf_table⟩

/-- Settles O5: a step at a command word is `runWord` of that word, by its decoding. -/
theorem stepRunsDecodedCommand : Obligations.StepRunsDecodedCommand := by
  intro s cw rest hin
  rw [step_cmd hin]
  exact ⟨fun _ hok => runWord_of_ok hok _, fun _ herr => runWord_of_error herr _⟩

end Sys2Proof.Machine
end

section
/-!
PROOFS. The decoder and the encoder (30_encoding.md R71 to R77): the layout of a word, the operands each format lets
through, and what the decoder answers to the words of each row of the opcode map.
-/

namespace Sys2Proof

open Machine

variable {cw : CmdWord} {k : Byte} {v : Word} {i : Instr} {f : Format}

/-! ### The layout of a word -/

@[simp] theorem opcodeOf_append_operandOf (cw : CmdWord) : opcodeOf cw ++ operandOf cw = cw :=
  BitVec.extractLsb'_append_extractLsb'

@[simp] theorem classOf_append (k : Byte) (v : Word) : classOf (k ++ v) = k.toNat / 16 := by simp [classOf]

@[simp] theorem selOf_append (k : Byte) (v : Word) : selOf (k ++ v) = k.toNat % 16 := by simp [selOf]

theorem classOf_eq_extract (cw : CmdWord) : classOf cw = (cw.extractLsb' 68 4).toNat := by
  simp only [classOf, opcodeOf, BitVec.extractLsb'_toNat, Nat.shiftRight_eq_div_pow]
  omega

theorem selOf_eq_extract (cw : CmdWord) : selOf cw = (cw.extractLsb' 64 4).toNat := by
  simp only [selOf, opcodeOf, BitVec.extractLsb'_toNat, Nat.shiftRight_eq_div_pow]
  omega

theorem toNat_wordOf (k : Byte) (v : Word) : (wordOf k v).toNat = k.toNat * 2 ^ 64 + v.toNat := by
  have h : (wordOf k v).toNat = k.toNat <<< 64 ||| v.toNat := BitVec.toNat_append k v
  rw [h, ← Nat.shiftLeft_add_eq_or_of_lt v.isLt, Nat.shiftLeft_eq]

theorem append_eq_append_iff {k k' : Byte} {v v' : Word} : (k ++ v : CmdWord) = k' ++ v' ↔ k = k' ∧ v = v' where
  mp h := ⟨by simpa using congrArg opcodeOf h, by simpa using congrArg operandOf h⟩
  mpr h := by rw [h.1, h.2]

/-! ### The operands of a format

The model says in three ways that an operand keeps to its format: by the bits the format's mask fixes (R74), by the
bits the decoder extracts (R73) and by the assembler's bound (R78). Each is brought to the bound, `Format.fits`. -/

/-- The number of operand bits a format leaves free. -/
def Format.operandBits : Format → Nat
  | .N => 0
  | .V => 64
  | .B => 8
  | .F => 1

theorem Format.operandMask_eq (f : Format) : f.operandMask = BitVec.allOnes 64 <<< f.operandBits := by
  cases f <;> rfl

theorem Format.fits_iff (f : Format) (n : Nat) : f.fits n = true ↔ n < 2 ^ f.operandBits := by
  cases f <;> exact decide_eq_true_iff

/-- Clearing the `n` low bits leaves nothing exactly of the numbers below `2^n`. -/
theorem and_allOnes_shiftLeft_eq_zero_iff (v : Word) (n : Nat) :
    v &&& BitVec.allOnes 64 <<< n = 0 ↔ v.toNat < 2 ^ n := by
  have hlt : v.toNat / 2 ^ n * 2 ^ n < 2 ^ 64 := (Nat.div_mul_le_self _ _).trans_lt v.isLt
  rw [← BitVec.shiftLeft_ushiftRight, ← BitVec.toNat_inj, BitVec.toNat_shiftLeft, BitVec.toNat_ushiftRight,
    Nat.shiftRight_eq_div_pow, Nat.shiftLeft_eq, Nat.mod_eq_of_lt hlt]
  simp [Nat.div_eq_zero_iff]

theorem extractLsb'_eq_zero_iff (v : Word) (n len : Nat) (h : n + len = 64) :
    v.extractLsb' n len = 0 ↔ v.toNat < 2 ^ n := by
  have hv : v.toNat / 2 ^ n < 2 ^ len := Nat.div_lt_of_lt_mul (by rw [← Nat.pow_add, h]; exact v.isLt)
  rw [← BitVec.toNat_inj, BitVec.extractLsb'_toNat, Nat.shiftRight_eq_div_pow, Nat.mod_eq_of_lt hv]
  simp [Nat.div_eq_zero_iff]

theorem Format.and_operandMask_eq_zero_iff (f : Format) (v : Word) :
    v &&& f.operandMask = 0 ↔ f.fits v.toNat = true := by
  rw [f.operandMask_eq, f.fits_iff, and_allOnes_shiftLeft_eq_zero_iff]

theorem setWidth_setWidth_of_lt (n : Nat) (h : v.toNat < 2 ^ n) : (v.setWidth n).setWidth 64 = v := by
  refine BitVec.eq_of_toNat_eq ?_
  rw [BitVec.toNat_setWidth, BitVec.toNat_setWidth, Nat.mod_eq_of_lt h, Nat.mod_eq_of_lt v.isLt]

/-- A field of the format's width, its bits above 0, fits the format. -/
theorem fits_setWidth {n : Nat} (x : BitVec n) (hf : f.operandBits = n) :
    f.fits (x.setWidth 64 : Word).toNat = true := by
  rw [f.fits_iff, hf, BitVec.toNat_setWidth]
  exact (Nat.mod_le _ _).trans_lt x.isLt

theorem low_eq_setWidth (v : Word) (n : Nat) : v.extractLsb' 0 n = v.setWidth n := by simp [BitVec.extractLsb']

/-! ### Each format's part of the decoder, by `Format.fits` -/

theorem takeN_eq (v : Word) (i : Instr) :
    takeN v i = if Format.N.fits v.toNat then .ok i else .error (.operandBreaks .N) := by
  have h : v = 0 ↔ Format.N.fits v.toNat = true := by
    rw [Format.fits_iff, ← BitVec.toNat_inj]
    exact Nat.lt_one_iff.symm
  simp only [takeN, h]

theorem takeV_eq (v : Word) (mk : Word → Instr) :
    takeV v mk = if Format.V.fits v.toNat then .ok (mk v) else .error (.operandBreaks .V) :=
  (if_pos ((Format.fits_iff _ _).mpr v.isLt)).symm

theorem takeB_eq (v : Word) (mk : Byte → Instr) :
    takeB v mk = if Format.B.fits v.toNat then .ok (mk (v.setWidth 8)) else .error (.operandBreaks .B) := by
  simp only [takeB, extractLsb'_eq_zero_iff v 8 56 rfl, Format.fits_iff, low_eq_setWidth, Format.operandBits]

theorem takeF_eq (v : Word) (mk : Bit → Instr) :
    takeF v mk = if Format.F.fits v.toNat then .ok (mk (v.setWidth 1)) else .error (.operandBreaks .F) := by
  simp only [takeF, extractLsb'_eq_zero_iff v 1 63 rfl, Format.fits_iff, low_eq_setWidth, Format.operandBits]

theorem takeN_zero (i : Instr) : takeN 0 i = .ok i := rfl

theorem takeB_setWidth (b : Byte) (mk : Byte → Instr) : takeB (b.setWidth 64) mk = .ok (mk b) := by
  rw [takeB_eq, if_pos (fits_setWidth b rfl), BitVec.setWidth_setWidth_of_le b (by decide), BitVec.setWidth_eq]

theorem takeF_setWidth (b : Bit) (mk : Bit → Instr) : takeF (b.setWidth 64) mk = .ok (mk b) := by
  rw [takeF_eq, if_pos (fits_setWidth b rfl), BitVec.setWidth_setWidth_of_le b (by decide), BitVec.setWidth_eq]

/-! ### The decoder, by the rows of the opcode map -/

/-- Each command, at any operand its format holds. -/
theorem decode_encode (i : Instr) : decode (encode i) = .ok i := by
  cases i with
    simp only [encode, opcode, operand, decode, decodeControl, decodeParameter, decodeReadback, classOf_append,
      selOf_append, operandOf_append]
  | byte v | wrpoly v | wrinit v | wrxor v => rfl
  | rdtab b | wrbits b => exact takeB_setWidth b _
  | wrrefl f => exact takeF_setWidth f _
  | _ => exact takeN_zero _

/-- What the decoder has to answer to operand `v` under opcode `k` of format `f`: the command with this opcode and
operand, or that the operand breaks the format (30_encoding.md R75 (b), R77). -/
structure ReadsAs (k : Byte) (f : Format) (v : Word) (x : Except Illegal Instr) : Prop where
  ok_of_fits : f.fits v.toNat = true → ∃ i, x = .ok i ∧ opcode i = k ∧ operand i = v
  error_of_breaks : f.fits v.toNat = false → x = .error (.operandBreaks f)

theorem ReadsAs.of_ite (hk : opcode i = k) (hv : f.fits v.toNat = true → operand i = v) :
    ReadsAs k f v (if f.fits v.toNat then .ok i else .error (.operandBreaks f)) where
  ok_of_fits h := ⟨i, if_pos h, hk, hv h⟩
  error_of_breaks h := if_neg (by simp [h])

theorem takeN_reads (i : Instr) (hk : opcode i = k) (hi : operand i = 0) (v : Word) : ReadsAs k .N v (takeN v i) := by
  rw [takeN_eq]
  refine .of_ite hk fun h => ?_
  have hv : v = 0 := BitVec.eq_of_toNat_eq (Nat.lt_one_iff.mp ((Format.fits_iff _ _).mp h))
  rw [hi, hv]

theorem takeV_reads (mk : Word → Instr) (hk : ∀ x, opcode (mk x) = k) (hmk : ∀ x, operand (mk x) = x) (v : Word) :
    ReadsAs k .V v (takeV v mk) := by
  rw [takeV_eq]
  exact .of_ite (hk v) fun _ => hmk v

theorem takeB_reads (mk : Byte → Instr) (hk : ∀ b, opcode (mk b) = k) (hmk : ∀ b, operand (mk b) = b.setWidth 64)
    (v : Word) : ReadsAs k .B v (takeB v mk) := by
  rw [takeB_eq]
  refine .of_ite (hk _) fun h => ?_
  rw [hmk, setWidth_setWidth_of_lt 8 ((Format.fits_iff _ _).mp h)]

theorem takeF_reads (mk : Bit → Instr) (hk : ∀ b, opcode (mk b) = k) (hmk : ∀ b, operand (mk b) = b.setWidth 64)
    (v : Word) : ReadsAs k .F v (takeF v mk) := by
  rw [takeF_eq]
  refine .of_ite (hk _) fun h => ?_
  rw [hmk, setWidth_setWidth_of_lt 1 ((Format.fits_iff _ _).mp h)]

theorem decode_controlRow (v : Word) :
    ∀ r ∈ controlRows, ReadsAs r.opcode r.format v (decode (r.opcode ++ v)) := by
  simp only [controlRows, List.forall_mem_cons, decode, decodeControl, classOf_append, selOf_append,
    operandOf_append, BitVec.ofNat_eq_ofNat, BitVec.reduceToNat]
  exact ⟨takeN_reads .nop rfl rfl v, takeN_reads .build rfl rfl v, takeN_reads .mkeng rfl rfl v,
    takeN_reads .start rfl rfl v, takeV_reads .byte (fun _ => rfl) (fun _ => rfl) v, takeN_reads .finish rfl rfl v,
    takeB_reads .rdtab (fun _ => rfl) (fun _ => rfl) v, nofun⟩

theorem decode_parameterRow (v : Word) :
    ∀ r ∈ parameterRows, ReadsAs r.opcode r.format v (decode (r.opcode ++ v)) := by
  simp only [parameterRows, List.forall_mem_cons, decode, decodeParameter, classOf_append, selOf_append,
    operandOf_append, BitVec.ofNat_eq_ofNat, BitVec.reduceToNat]
  exact ⟨takeB_reads .wrbits (fun _ => rfl) (fun _ => rfl) v, takeV_reads .wrpoly (fun _ => rfl) (fun _ => rfl) v,
    takeV_reads .wrinit (fun _ => rfl) (fun _ => rfl) v, takeV_reads .wrxor (fun _ => rfl) (fun _ => rfl) v,
    takeF_reads .wrrefl (fun _ => rfl) (fun _ => rfl) v, nofun⟩

theorem decode_readbackRow (v : Word) :
    ∀ r ∈ readbackRows, ReadsAs r.opcode r.format v (decode (r.opcode ++ v)) := by
  simp only [readbackRows, List.forall_mem_cons, decode, decodeReadback, classOf_append, selOf_append,
    operandOf_append, BitVec.ofNat_eq_ofNat, BitVec.reduceToNat]
  exact ⟨takeN_reads .rdbits rfl rfl v, takeN_reads .rdpoly rfl rfl v, takeN_reads .rdinit rfl rfl v,
    takeN_reads .rdxor rfl rfl v, takeN_reads .rdrefl rfl rfl v, takeN_reads .rdstat rfl rfl v,
    takeN_reads .rdtbits rfl rfl v, takeN_reads .rdtpoly rfl rfl v, takeN_reads .rdtrefl rfl rfl v,
    takeN_reads .rdeinit rfl rfl v, takeN_reads .rdexor rfl rfl v, takeN_reads .rdmask rfl rfl v,
    takeN_reads .rdshift rfl rfl v, takeN_reads .rdacc rfl rfl v, nofun⟩

theorem decode_row {r : OpcodeRow} (hr : r ∈ opcodeRows) (v : Word) :
    ReadsAs r.opcode r.format v (decode (r.opcode ++ v)) := by
  simp only [opcodeRows, List.mem_append] at hr
  obtain (hr | hr) | hr := hr
  · exact decode_controlRow v r hr
  · exact decode_parameterRow v r hr
  · exact decode_readbackRow v r hr

/-- The decoder at a word with the opcode of a row. -/
theorem reads_of_opcode {r : OpcodeRow} (hr : r ∈ opcodeRows) (hk : r.opcode = opcodeOf cw) :
    ReadsAs r.opcode r.format (operandOf cw) (decode cw) := by
  have hcw : r.opcode ++ operandOf cw = cw := by rw [hk, opcodeOf_append_operandOf]
  have hread := decode_row hr (operandOf cw)
  rwa [hcw] at hread

/-! An opcode outside the map (30_encoding.md R75 (a)): in each class the `sel` values from some point on, or a class
above 0x2. -/

theorem class_sel_of_unassigned :
    ∀ k : Byte, (∀ r ∈ opcodeRows, r.opcode ≠ k) →
      (k.toNat / 16 = 0 ∧ 7 ≤ k.toNat % 16) ∨ (k.toNat / 16 = 1 ∧ 5 ≤ k.toNat % 16) ∨
      (k.toNat / 16 = 2 ∧ 14 ≤ k.toNat % 16) ∨ 3 ≤ k.toNat / 16 := by
  decide

theorem decodeControl_unassigned (h : 7 ≤ selOf cw) :
    decodeControl cw = .error (.unassigned (opcodeOf cw)) := by
  grind [decodeControl]

theorem decodeParameter_unassigned (h : 5 ≤ selOf cw) :
    decodeParameter cw = .error (.unassigned (opcodeOf cw)) := by
  grind [decodeParameter]

theorem decodeReadback_unassigned (h : 14 ≤ selOf cw) :
    decodeReadback cw = .error (.unassigned (opcodeOf cw)) := by
  grind [decodeReadback]

theorem decode_unassigned (h : ∀ r ∈ opcodeRows, r.opcode ≠ opcodeOf cw) :
    decode cw = .error (.unassigned (opcodeOf cw)) := by
  obtain ⟨hc, hs⟩ | ⟨hc, hs⟩ | ⟨hc, hs⟩ | hc := class_sel_of_unassigned (opcodeOf cw) h
  · simp only [decode, classOf, hc, decodeControl_unassigned hs]
  · simp only [decode, classOf, hc, decodeParameter_unassigned hs]
  · simp only [decode, classOf, hc, decodeReadback_unassigned hs]
  · grind [decode, classOf]

/-! ### The mask and match rows -/

theorem spells_iff (r : OpcodeRow) (cw : CmdWord) :
    r.spells cw = true ↔ r.opcode = opcodeOf cw ∧ r.format.fits (operandOf cw).toNat = true := by
  have hmask : ∀ k : Byte, k &&& 0xFF = k := by decide
  have hand : cw &&& r.mask = opcodeOf cw ++ (operandOf cw &&& r.format.operandMask) := by
    conv_lhs => rw [← opcodeOf_append_operandOf cw]
    rw [OpcodeRow.mask, Laws.EncodesLegally.append_and, hmask]
  rw [OpcodeRow.spells, beq_iff_eq, hand, OpcodeRow.pattern, append_eq_append_iff,
    Format.and_operandMask_eq_zero_iff, eq_comm (a := r.opcode)]

theorem wellFormed_iff (cw : CmdWord) :
    WellFormed cw = true ↔
      ∃ r ∈ opcodeRows, r.opcode = opcodeOf cw ∧ r.format.fits (operandOf cw).toNat = true := by
  simp only [WellFormed, List.any_eq_true, spells_iff]

theorem eq_of_opcode_eq : ∀ r ∈ opcodeRows, ∀ q ∈ opcodeRows, r.opcode = q.opcode → r = q := by decide

/-- The words that do not decode, by the two reasons of 30_encoding.md R75. -/
theorem decode_error_iff (cw : CmdWord) :
    (∃ e, decode cw = .error e) ↔
      (∀ r ∈ opcodeRows, r.opcode ≠ opcodeOf cw) ∨
      ∃ r ∈ opcodeRows, r.opcode = opcodeOf cw ∧ r.format.fits (operandOf cw).toNat = false := by
  constructor
  · rintro ⟨e, he⟩
    by_contra! hlegal
    obtain ⟨⟨r, hr, hk⟩, hfits⟩ := hlegal
    obtain ⟨i, hi, -⟩ := (reads_of_opcode hr hk).ok_of_fits (by simpa using hfits r hr hk)
    exact nomatch he.symm.trans hi
  · rintro (hnone | ⟨r, hr, hk, hfits⟩)
    · exact ⟨_, decode_unassigned hnone⟩
    · exact ⟨_, (reads_of_opcode hr hk).error_of_breaks hfits⟩

/-! ### The obligations -/

/-- Settles O7: each command's word comes back through its own class and format. -/
theorem decodeOfEncode : Obligations.DecodeOfEncode := decode_encode

/-- Settles O8: a word of a row decodes to the command of its opcode and operand; a word of no row has an unassigned
opcode or an operand that breaks its format. -/
theorem decodeIsTheOpcodeMap : Obligations.DecodeIsTheOpcodeMap := by
  refine fun cw => ⟨fun hwf => ?_, fun hwf => (decode_error_iff cw).mpr ?_⟩
  · obtain ⟨r, hr, hk, hfits⟩ := (wellFormed_iff cw).mp hwf
    obtain ⟨i, hi, hop, hv⟩ := (reads_of_opcode hr hk).ok_of_fits hfits
    refine ⟨i, hi, ?_⟩
    rw [encode, hop, hv, hk, opcodeOf_append_operandOf]
  · by_contra! hlegal
    obtain ⟨⟨r, hr, hk⟩, hfits⟩ := hlegal
    exact Bool.eq_false_iff.mp hwf ((wellFormed_iff cw).mpr ⟨r, hr, hk, by simpa using hfits r hr hk⟩)

/-- Settles O9: `decode_error_iff` in terms of the operand bits a format fixes to 0, and the reject. -/
theorem illegalWordsExactly : Obligations.IllegalWordsExactly := by
  refine fun cw => ⟨?_, fun e he s => runWord_of_error he s⟩
  simp only [decode_error_iff, ne_eq, Format.and_operandMask_eq_zero_iff, Bool.not_eq_true]

/-- Settles O11: a row that spells a word has the word's opcode, and no two rows share one. -/
theorem noTwoRowsOverlap : Obligations.NoTwoRowsOverlap := by
  refine ⟨rfl, fun cw r hr q hq hrs hqs => eq_of_opcode_eq r hr q hq ?_⟩
  exact ((spells_iff r cw).mp hrs).1.trans ((spells_iff q cw).mp hqs).1.symm

/-- Settles O12, by evaluation of the decoder at each word. -/
theorem decodeOfWrittenWords : Obligations.DecodeOfWrittenWords := by
  unfold Obligations.DecodeOfWrittenWords
  decide

/-- Settles O13. -/
theorem wordLayout : Obligations.WordLayout :=
  ⟨fun k v => ⟨opcodeOf_append k v, operandOf_append k v⟩, opcodeOf_append_operandOf,
    fun cw => ⟨classOf_eq_extract cw, selOf_eq_extract cw⟩,
    fun st d => ⟨rspStatus_rspWord st d, rspData_rspWord st d⟩⟩

end Sys2Proof
end

section
/-!
PROOFS. No command stops the unit (30_encoding.md R70, 70_reset_and_hazards.md R275): in a state that meets R44
each guarded component has a value when its flag is set, and each command word gets one response.
-/

namespace Sys2Proof.Machine

variable {s t u : State} {i : Instr} {cw : CmdWord} {α : Type}

/-! ### A set flag's components have values -/

theorem State.Inv.tBits_some (h : s.Inv) (ht : s.tValid = true) :
    ∃ b, s.tBits = some b ∧ validBits b.toNat = true := by
  obtain ⟨b, p, f, hb, -, -, hv, -⟩ := h.table_built ht
  exact ⟨b, hb, (Bool.and_eq_true_iff.mp hv).1⟩

theorem State.Inv.tPoly_some (h : s.Inv) (ht : s.tValid = true) : ∃ p, s.tPoly = some p := by
  obtain ⟨-, p, -, -, hp, -⟩ := h.table_built ht
  exact ⟨p, hp⟩

theorem State.Inv.tRefl_some (h : s.Inv) (ht : s.tValid = true) : ∃ f, s.tRefl = some f := by
  obtain ⟨-, -, f, -, -, hf, -⟩ := h.table_built ht
  exact ⟨f, hf⟩

theorem State.Inv.entry_some (h : s.Inv) (ht : s.tValid = true) {d : Nat} (hd : d < 256) :
    ∃ e, tabRead s.table d = some e := by
  obtain ⟨b, p, f, -, -, -, -, htab⟩ := h.table_built ht
  exact ⟨_, by rw [htab, tabRead_buildTable, if_pos hd]⟩

theorem State.Inv.eInit_some (h : s.Inv) (he : s.eValid = true) : ∃ a, s.eInit = some a := by
  obtain ⟨-, a, -, -, ha, -⟩ := h.engine_fits he
  exact ⟨a, ha⟩

theorem State.Inv.eXor_some (h : s.Inv) (he : s.eValid = true) : ∃ x, s.eXor = some x := by
  obtain ⟨-, -, x, -, -, hx, -⟩ := h.engine_fits he
  exact ⟨x, hx⟩

theorem State.Inv.acc_some (h : s.Inv) (hr : s.run = true) : ∃ a, s.acc = some a := by
  obtain ⟨-, a, -, ha, -⟩ := h.acc_fits hr
  exact ⟨a, ha⟩

/-- The table index of an update is in the table space; at width 8 because the accumulator is a byte too
(43_crc_engine.md R170). -/
theorem updateIndex_lt {bits cur byte : Nat} (refl : Bit) (hcur : cur < 2 ^ bits) (hbyte : byte < 256) :
    updateIndex bits refl cur byte < 256 := by
  unfold updateIndex
  split
  next h8 =>
    subst h8
    exact Nat.xor_lt_two_pow (n := 8) hcur hbyte
  next =>
    split
    · exact Nat.and_lt_two_pow (n := 8) _ (by decide)
    · exact Nat.and_lt_two_pow (n := 8) _ (by decide)

/-! ### Commands that answer a next state -/

theorem needs_answers {flag : Bool} {why : Reject} {go : Host.Outcome State Fault Refusal}
    (hgo : flag = true → ∃ t, go = .next t) : ∃ t, needs flag why s go = .next t := by
  cases flag with
  | false => exact ⟨_, rfl⟩
  | true => exact hgo rfl

theorem withValue_answers {r : Option α} {what : Guarded} {go : α → Host.Outcome State Fault Refusal}
    (hr : ∃ a, r = some a) (hgo : ∀ a, r = some a → ∃ t, go a = .next t) :
    ∃ t, withValue r what go = .next t := by
  obtain ⟨a, rfl⟩ := hr
  exact hgo a rfl

theorem complete_answers (d : Word) (s : State) : ∃ t, complete d s = .next t := ⟨_, rfl⟩

/-- A command that reads one component under its flag. -/
theorem guardedRead_answers {flag : Bool} {why : Reject} {r : Option α} {what : Guarded} {data : α → Word}
    {next : α → State} (hr : flag = true → ∃ a, r = some a) :
    ∃ t, needs flag why s (withValue r what fun a => complete (data a) (next a)) = .next t :=
  needs_answers fun hflag => withValue_answers (hr hflag) fun _ _ => complete_answers _ _

/-- A command that reads a view of the width under `T_VALID`. -/
theorem State.Inv.widthRead_answers (h : s.Inv) {data : Nat → Word} :
    ∃ t, needsTable s (withWidth s fun bits => complete (data bits) s) = .next t := by
  refine needs_answers fun ht => ?_
  obtain ⟨b, hb, hv⟩ := h.tBits_some ht
  rw [withWidth_of_legal hb hv]
  exact complete_answers _ _

theorem execBuild_answers (s : State) : ∃ t, execBuild s = .next t := by
  unfold execBuild
  split <;> exact ⟨_, rfl⟩

theorem execMkeng_answers (s : State) : ∃ t, execMkeng s = .next t := by
  unfold execMkeng
  split <;> exact ⟨_, rfl⟩

theorem State.Inv.execByte_answers (h : s.Inv) (v : Word) : ∃ t, execByte v s = .next t := by
  refine needs_answers fun hr => ?_
  unfold needsByte
  split
  next => exact ⟨_, rfl⟩
  next hv =>
    have ht := h.engine_needs_table (h.run_needs_engine hr)
    obtain ⟨b, cur, hb, hacc, hcur⟩ := h.acc_fits hr
    obtain ⟨b', hb', hlegal⟩ := h.tBits_some ht
    obtain rfl : b' = b := by simpa [hb] using hb'.symm
    obtain ⟨refl, hrefl⟩ := h.tRefl_some ht
    obtain ⟨e, he⟩ := h.entry_some ht (updateIndex_lt refl hcur (Nat.lt_succ_of_le (Nat.not_lt.mp hv)))
    simp only [foldByte, hacc, hrefl, he, withValue_some, withWidth_of_legal hb hlegal]
    exact complete_answers _ _

theorem State.Inv.execFinish_answers (h : s.Inv) : ∃ t, execFinish s = .next t := by
  refine needs_answers fun hr => withValue_answers (h.acc_some hr) fun _ _ => ?_
  exact withValue_answers (h.eXor_some (h.run_needs_engine hr)) fun _ _ => complete_answers _ _

theorem State.Inv.exec_answers (h : s.Inv) (i : Instr) : ∃ t, exec i s = .next t := by
  cases i with
  | nop | wrbits | wrpoly | wrinit | wrxor | wrrefl => exact complete_answers _ _
  | rdbits | rdpoly | rdinit | rdxor | rdrefl | rdstat => exact complete_answers _ _
  | build => exact execBuild_answers s
  | mkeng => exact execMkeng_answers s
  | start => exact guardedRead_answers h.eInit_some
  | byte v => exact h.execByte_answers v
  | finish => exact h.execFinish_answers
  | rdtab b => exact guardedRead_answers fun ht => h.entry_some ht b.isLt
  | rdtbits => exact guardedRead_answers fun ht => (h.tBits_some ht).imp fun _ hb => hb.1
  | rdtpoly => exact guardedRead_answers h.tPoly_some
  | rdtrefl => exact guardedRead_answers h.tRefl_some
  | rdeinit => exact guardedRead_answers h.eInit_some
  | rdexor => exact guardedRead_answers h.eXor_some
  | rdmask | rdshift => exact h.widthRead_answers
  | rdacc => exact guardedRead_answers h.acc_some

theorem State.Inv.runWord_answers (h : s.Inv) (cw : CmdWord) : ∃ t, runWord cw s = .next t := by
  cases hd : decode cw with
  | ok i => exact runWord_of_ok hd s ▸ h.exec_answers i
  | error e => exact ⟨_, runWord_of_error hd s⟩

/-! ### One response, and the word is no longer waiting -/

/-- One response is given, of a status the spec names and without data when the command is rejected
(30_encoding.md R71, 60_exceptions.md R241). -/
def RespondsOnce (s t : State) : Prop :=
  ∃ st d, t.rsps = s.rsps ++ [rspWord st d] ∧ st.toNat ≤ 6 ∧ (st ≠ 0 → d = 0)

theorem State.reject_respondsOnce (s : State) (why : Reject) : RespondsOnce s (s.reject why) :=
  ⟨rejectCode why, 0, rfl, rejectCode_le why, fun _ => rfl⟩

theorem Ends.respondsOnce (ht : Ends s i t) : RespondsOnce s t := by
  cases ht with
  | rejected why => exact s.reject_respondsOnce why
  | completed d hu => exact ⟨0, d, by simp [hu.rsps_eq], Nat.zero_le 6, fun h => absurd rfl h⟩

theorem runWord_respondsOnce (h : runWord cw s = .next t) : RespondsOnce s t := by
  obtain ⟨i, -, hi⟩ | ⟨-, rfl⟩ := runWord_ends h
  · exact hi.respondsOnce
  · exact s.reject_respondsOnce .illegalCmd

theorem Assigns.inputs_eq (hu : Assigns s i u) : u.inputs = s.inputs := by cases hu <;> rfl

theorem runWord_inputs_eq (h : runWord cw s = .next t) : t.inputs = s.inputs := by
  obtain ⟨i, -, hi⟩ | ⟨-, rfl⟩ := runWord_ends h
  · cases hi with
    | rejected why => rfl
    | completed d hu => exact hu.inputs_eq
  · rfl

theorem State.Inv.step_answers (h : s.Inv) : ∃ t, step s = .next t ∧ t.inputs = s.inputs.tail := by
  match hin : s.inputs with
  | [] => exact ⟨s, advance_idle hin, hin⟩
  | .cmd cw :: rest =>
    obtain ⟨t, ht⟩ := (h.setInputs rest).runWord_answers cw
    exact ⟨t, (advance_cmd hin).trans ht, runWord_inputs_eq ht⟩
  | .rst :: rest => exact ⟨_, advance_rst hin, rfl⟩

/-- Settles O4: under the invariants every guarded read finds a value, and a command word's step is `runWord` of it. -/
theorem everyInputIsAnswered : Obligations.EveryInputIsAnswered := by
  refine fun s h => ⟨h.exec_answers, h.step_answers, fun cw rest hin => ?_⟩
  obtain ⟨t, ht⟩ := (h.setInputs rest).runWord_answers cw
  obtain ⟨st, d, hrsps, hst, hd⟩ := runWord_respondsOnce ht
  exact ⟨t, st, d, (step_cmd hin).trans ht, hrsps, hst, hd⟩

end Sys2Proof.Machine
end

section
/-!
PROOFS. The port by clock cycles (30_encoding.md R70, 00_scope.md R8): one edge in each phase, and the cycles from the
acceptance of a command word to its response.
-/

namespace Sys2Proof.Machine

variable {c : Clocked} {cw : CmdWord} {p : Pins} {t : State}

/-- Both latencies are positive (00_scope.md R8). -/
theorem latency_pos (cw : CmdWord) : 0 < latency cw := by
  unfold latency
  split <;> exact Nat.succ_pos _

/-! ### One edge without reset -/

theorem tick_accept (hc : c.phase = .ready) (cw : CmdWord) :
    tick ⟨false, true, cw⟩ c = .next { c with phase := .busy cw (latency cw - 1) } := by
  simp [tick, hc]

theorem tick_wait (hp : p.rst = false) (u : State) (cw : CmdWord) (left : Nat) :
    tick p ⟨u, .busy cw (left + 1)⟩ = .next ⟨u, .busy cw left⟩ := by
  simp [tick, hp]

theorem tick_respond (hp : p.rst = false) {u : State} (h : runWord cw u = .next t) :
    tick p ⟨u, .busy cw 0⟩ = .next ⟨t, .ready⟩ := by
  simp [tick, hp, h]

/-- A command in progress takes one cycle off its latency at each edge, whatever the host presents. -/
theorem ticks_wait (u : State) (cw : CmdWord) :
    ∀ (qs : List Pins) (left : Nat), (∀ q ∈ qs, q.rst = false) → qs.length ≤ left →
      ticks qs ⟨u, .busy cw left⟩ = .next ⟨u, .busy cw (left - qs.length)⟩ := by
  intro qs
  induction qs with
  | nil => intro left _ _; rfl
  | cons q qs ih =>
    intro left hrst hlen
    obtain ⟨n, rfl⟩ : ∃ n, left = n + 1 := Nat.exists_eq_add_one.mpr (Nat.zero_lt_of_lt hlen)
    rw [List.forall_mem_cons] at hrst
    rw [ticks, tick_wait hrst.1]
    simpa using ih n hrst.2 (Nat.le_of_succ_le_succ hlen)

/-! ### The port's outputs -/

theorem cmdReady_ready (hp : p.rst = false) (u : State) : cmdReady ⟨u, .ready⟩ p = true := by
  simp [cmdReady, hp]

theorem cmdReady_busy (u : State) (cw : CmdWord) (left : Nat) (p : Pins) :
    cmdReady ⟨u, .busy cw left⟩ p = false := by
  simp [cmdReady]

theorem rspValid_busy (hp : p.rst = false) (u : State) (cw : CmdWord) (left : Nat) :
    rspValid ⟨u, .busy cw left⟩ p = decide (left = 0) := by
  cases left <;> simp [rspValid, hp]

theorem rspSignal_busy {u : State} (h : runWord cw u = .next t) (left : Nat) :
    rspSignal ⟨u, .busy cw left⟩ = t.rsps.getLast? := by
  simp [rspSignal, h]

/-- Settles O55: after acceptance and `qs`, the command has `latency - 1 - qs.length` cycles to go. -/
theorem responseAfterLatency : Obligations.ResponseAfterLatency := by
  intro c cw t qs p hc hrun hqs hp hlen
  obtain ⟨u, phase⟩ := c
  obtain rfl : phase = .ready := hc
  have hticks : ticks (⟨false, true, cw⟩ :: qs) ⟨u, .ready⟩ =
      .next ⟨u, .busy cw (latency cw - 1 - qs.length)⟩ := by
    rw [ticks, tick_accept rfl]
    exact ticks_wait u cw qs _ hqs (by omega)
  have hlast : latency cw - 1 - qs.length = 0 ↔ qs.length + 1 = latency cw := by omega
  refine ⟨cmdReady_ready rfl u, _, hticks, rfl, cmdReady_busy .., ?_, fun h => ?_⟩
  · rw [rspValid_busy hp, decide_eq_decide, hlast]
  · rw [hlast.mpr h]
    exact ⟨rspSignal_busy hrun 0, tick_respond hp hrun, cmdReady_ready hp t, rfl⟩

end Sys2Proof.Machine
end

section
/-!
PROOFS. The assembler at each row of the opcode map (30_encoding.md R78): what it makes, what it refuses, and that it
makes legal words only.
-/

namespace Sys2Proof.Machine

variable {r : OpcodeRow}

theorem find_mnemonic :
    ∀ r ∈ opcodeRows, opcodeRows.find? (·.mnemonic.toList == r.mnemonic.toList) = some r := by decide

/-! ### The three kinds of line -/

theorem assemble_bare (hr : r ∈ opcodeRows) (hf : r.format = .N) :
    assemble r.mnemonic.toList [] = .ok (wordOf r.opcode 0) := by
  simp only [assemble, find_mnemonic r hr, hf, wordOf]

theorem assemble_unwanted (hr : r ∈ opcodeRows) (hf : r.format = .N) (v : Nat) (vs : List Nat) :
    assemble r.mnemonic.toList (v :: vs) = .error .operandCount := by
  simp only [assemble, find_mnemonic r hr, hf]

theorem assemble_operand (hr : r ∈ opcodeRows) (hf : r.format ≠ .N) (v : Nat) :
    assemble r.mnemonic.toList [v] =
      if r.format.fits v then .ok (wordOf r.opcode (BitVec.ofNat 64 v)) else .error .doesNotFit := by
  unfold assemble
  rw [find_mnemonic r hr]
  cases h : r.format with
  | N => exact absurd h hf
  | V | B | F => simp only [h, wordOf]

/-! ### The word made -/

/-- An operand that fits its format is stored whole. -/
theorem toNat_ofNat_of_fits {f : Format} {v : Nat} (h : f.fits v = true) : (BitVec.ofNat 64 v).toNat = v := by
  have hbits : f.operandBits ≤ 64 := by cases f <;> decide
  have hv : v < 2 ^ 64 := ((f.fits_iff v).mp h).trans_le (Nat.pow_le_pow_right (by decide) hbits)
  rw [BitVec.toNat_ofNat, Nat.mod_eq_of_lt hv]

theorem wellFormed_wordOf (hr : r ∈ opcodeRows) {v : Word} (h : r.format.fits v.toNat = true) :
    WellFormed (wordOf r.opcode v) = true :=
  (wellFormed_iff _).mpr ⟨r, hr, (opcodeOf_append _ _).symm, by rwa [wordOf, operandOf_append]⟩

/-- Settles O57: a row is found by its mnemonic, and then its format decides. -/
theorem assemblerEncodesAndRefuses : Obligations.AssemblerEncodesAndRefuses := by
  refine fun r hr => ⟨fun hf => ⟨assemble_bare hr hf, wellFormed_wordOf hr ?_, assemble_unwanted hr hf⟩,
    fun hf v => ⟨fun hv => ?_, fun hv => ?_⟩⟩
  · rw [hf]
    rfl
  · have hword := toNat_ofNat_of_fits hv
    refine ⟨by rw [assemble_operand hr hf, if_pos hv], ?_, wellFormed_wordOf hr (by rwa [hword])⟩
    rw [toNat_wordOf, hword]
  · rw [assemble_operand hr hf, if_neg (by simp [hv])]

end Sys2Proof.Machine
end

section
/-!
PROOFS. The bit and mask utilities (40_bit_utilities.md R101 to R105). One lemma says for each of them which bits its
value has; the laws of `reflect` are read off bit by bit, or carried over by its involution.
-/

namespace Sys2Proof.Machine

variable {v bits : Nat}

/-! ### mask, shift and hi_bit -/

@[simp] theorem testBit_mask (bits j : Nat) : (mask bits).testBit j = decide (j < bits) :=
  Nat.testBit_two_pow_sub_one bits j

@[simp] theorem testBit_hiBit (bits j : Nat) : (hiBit bits).testBit j = decide (bits - 1 = j) :=
  Nat.testBit_two_pow

theorem and_mask_eq_mod (v bits : Nat) : v &&& mask bits = v % 2 ^ bits := Nat.and_two_pow_sub_one_eq_mod v bits

theorem and_hiBit_eq_zero_iff (w bits : Nat) : w &&& hiBit bits = 0 ↔ w.testBit (bits - 1) = false := by
  simp [hiBit, Nat.and_two_pow]

/-- What stands above `shift(bits)` in a `bits`-wide value is its top byte (R102). -/
theorem shiftRight_shift_lt (hbits : 8 ≤ bits) (hv : v < 2 ^ bits) : v >>> shift bits < 256 := by
  rw [Nat.shiftRight_eq_div_pow]
  refine Nat.div_lt_of_lt_mul ?_
  calc v < 2 ^ (shift bits + 8) := by rwa [shift, Nat.sub_add_cancel hbits]
    _ = 2 ^ shift bits * 256 := Nat.pow_add 2 _ 8

/-! ### The bits of reflect -/

/-- Round `i = n` of the loop copies bit `n` of `v` to bit `bits − 1 − n` of the result. -/
theorem testBit_reflectLoop_succ (v bits n j : Nat) :
    (reflectLoop v bits (n + 1)).testBit j =
      ((reflectLoop v bits n).testBit j || (decide (bits - 1 - n = j) && v.testBit n)) := by
  have hbit : (v >>> n) &&& 1 = 1 ↔ v.testBit n = true := by
    rw [Nat.and_one_is_mod, Nat.shiftRight_eq_div_pow, Nat.testBit_eq_decide_div_mod_eq, decide_eq_true_iff]
  rw [reflectLoop]
  split
  case isTrue hv => simp [Nat.one_shiftLeft, Nat.testBit_two_pow, hbit.mp hv]
  case isFalse hv => simp [Bool.eq_false_of_not_eq_true (mt hbit.mpr hv)]

/-- After `n` rounds the `n` top bits of the field are filled in, and no others. -/
theorem testBit_reflectLoop (v bits j n : Nat) (hn : n ≤ bits) :
    (reflectLoop v bits n).testBit j = (decide (bits - n ≤ j ∧ j < bits) && v.testBit (bits - 1 - j)) := by
  induction n with
  | zero =>
    have hnone : ¬(bits - 0 ≤ j ∧ j < bits) := by omega
    rw [decide_eq_false hnone, reflectLoop, Nat.zero_testBit, Bool.false_and]
  | succ n ih =>
    rw [testBit_reflectLoop_succ, ih (by omega)]
    by_cases hj : bits - 1 - n = j
    · have hnow : bits - (n + 1) ≤ j ∧ j < bits := by omega
      have hlater : ¬bits - n ≤ j := by omega
      have hback : bits - 1 - j = n := by omega
      simp [hj, hnow, hlater, hback]
    · have hsame : (bits - (n + 1) ≤ j ∧ j < bits) ↔ (bits - n ≤ j ∧ j < bits) := by omega
      simp only [hj, hsame, decide_false, Bool.false_and, Bool.or_false]

/-- Bit `j` of `reflect(v, bits)` is bit `bits − 1 − j` of `v`, inside the field (R104). -/
@[simp] theorem testBit_reflect (v bits j : Nat) :
    (reflect v bits).testBit j = (decide (j < bits) && v.testBit (bits - 1 - j)) := by
  rw [reflect, testBit_reflectLoop v bits j bits le_rfl]
  simp

/-! ### The laws of reflect (R105) -/

theorem reflect_lt (v bits : Nat) : reflect v bits < 2 ^ bits := by
  refine Nat.lt_pow_two_of_testBit _ fun j hj => ?_
  simp [hj.not_gt]

theorem reflect_reflect (hv : v < 2 ^ bits) : reflect (reflect v bits) bits = v := by
  refine Nat.eq_of_testBit_eq fun j => ?_
  by_cases hj : j < bits
  · have hback : bits - 1 - (bits - 1 - j) = j := by omega
    have hfield : bits - 1 - j < bits := by omega
    simp [hj, hfield, hback]
  · simp [hj, Nat.testBit_lt_two_pow (hv.trans_le (Nat.pow_le_pow_right (by decide) (not_lt.mp hj)))]

theorem reflect_zero (bits : Nat) : reflect 0 bits = 0 :=
  Nat.eq_of_testBit_eq fun j => by simp

theorem reflect_mask (bits : Nat) : reflect (mask bits) bits = mask bits := by
  refine Nat.eq_of_testBit_eq fun j => ?_
  have hfield : j < bits → bits - 1 - j < bits := by omega
  simpa using hfield

theorem reflect_hiBit (hbits : 1 ≤ bits) : reflect (hiBit bits) bits = 1 := by
  refine Nat.eq_of_testBit_eq fun j => ?_
  rw [Bool.eq_iff_iff, Nat.testBit_one_eq_true_iff_self_eq_zero]
  simp only [testBit_reflect, testBit_hiBit, Bool.and_eq_true, decide_eq_true_eq]
  omega

theorem reflect_one (hbits : 1 ≤ bits) : reflect 1 bits = hiBit bits := by
  have hhi : hiBit bits < 2 ^ bits := Nat.pow_lt_pow_right (by decide) (by omega)
  rw [← reflect_hiBit hbits, reflect_reflect hhi]

theorem reflect_xor (v w bits : Nat) : reflect (v ^^^ w) bits = reflect v bits ^^^ reflect w bits :=
  Nat.eq_of_testBit_eq fun j => by simp [Bool.and_xor_distrib_left]

/-- A left shift inside the field becomes a right shift. -/
theorem reflect_shiftLeft (v bits : Nat) : reflect ((v <<< 1) &&& mask bits) bits = reflect v bits >>> 1 := by
  refine Nat.eq_of_testBit_eq fun j => ?_
  have hnext : bits - 1 - j - 1 = bits - 1 - (1 + j) := by omega
  have hguard : (j < bits ∧ 1 ≤ bits - 1 - j ∧ bits - 1 - j < bits) ↔ 1 + j < bits := by omega
  simp only [testBit_reflect, Nat.testBit_and, Nat.testBit_shiftLeft, Nat.testBit_shiftRight, testBit_mask, hnext,
    ← hguard, Bool.decide_and]
  ac_rfl

/-- The mirror image of `reflect_shiftLeft`, by the involution. -/
theorem reflect_shiftRight (hv : v < 2 ^ bits) :
    reflect (v >>> 1) bits = (reflect v bits <<< 1) &&& mask bits := by
  calc reflect (v >>> 1) bits = reflect (reflect (reflect v bits) bits >>> 1) bits := by rw [reflect_reflect hv]
    _ = reflect (reflect ((reflect v bits <<< 1) &&& mask bits) bits) bits := by rw [reflect_shiftLeft]
    _ = (reflect v bits <<< 1) &&& mask bits := reflect_reflect (and_mask_lt _ _)

/-! ### The obligations -/

/-- Settles O37: the masks select bits at every width; the values of the three functions are evaluated at the four. -/
theorem maskShiftHighBit : Obligations.MaskShiftHighBit := by
  refine ⟨and_mask_eq_mod, by decide, by decide, fun bits hbits => ⟨fun v hv => ?_, fun d => ?_⟩, by decide,
    fun bits w _ => and_hiBit_eq_zero_iff w bits⟩
  · have hwide : ∀ b ∈ [8, 16, 32, 64], 8 ≤ b := by decide
    exact shiftRight_shift_lt (hwide bits hbits) hv
  · exact Nat.shiftLeft_shiftRight d (shift bits)

/-- Settles O38: both parts read off `testBit_reflect`. -/
theorem reflectReversesBits : Obligations.ReflectReversesBits := by
  refine fun v bits _ _ => ⟨fun i hi => ?_, fun j hj => ?_⟩
  · have hfield : bits - 1 - i < bits := by omega
    have hback : bits - 1 - (bits - 1 - i) = i := by omega
    simp [hfield, hback]
  · simp [hj.not_gt]

/-- Settles O39: the laws one by one, and the worked values by evaluation. -/
theorem reflectLaws : Obligations.ReflectLaws := by
  refine ⟨fun bits v w hbits hv _ => ⟨reflect_reflect hv, reflect_lt v bits, reflect_zero bits, reflect_mask bits,
    reflect_one hbits, reflect_hiBit hbits, reflect_xor v w bits, reflect_shiftLeft v bits, reflect_shiftRight hv, ?_⟩,
    by decide, by decide, by decide, by decide, by decide, by decide, by decide⟩
  have hpos : 0 < bits := hbits
  rw [testBit_reflect, decide_eq_true hpos, Bool.true_and, Nat.sub_zero]

end Sys2Proof.Machine
end

section
/-!
PROOFS. The parameter writes and the validity predicates (41_parameters.md R120 to R128). The five staging registers
are read as one function of the register's name; a parameter write is then `Function.update` of that function, and that
writes commute and replace each other is what the library says of `Function.update`.
-/

namespace Sys2Proof.Machine

variable {cw : CmdWord} {v : Word} {i j : Instr} {s : State}

/-! ### The staging registers by name -/

/-- The staging registers (10_state.md R20), each written by one command of class 0x1. -/
inductive StagingReg where
  | bits
  | poly
  | init
  | xor
  | refl
  deriving DecidableEq

/-- What a staging register stores. -/
def StagingReg.Content : StagingReg → Type
  | .bits => Byte
  | .refl => Bit
  | .poly | .init | .xor => Word

/-- The opcode of the command that writes the register (30_encoding.md R74). -/
def StagingReg.opcode : StagingReg → Byte
  | .bits => 0x10
  | .poly => 0x11
  | .init => 0x12
  | .xor => 0x13
  | .refl => 0x14

theorem StagingReg.opcode_injective : Function.Injective StagingReg.opcode := by
  intro r q
  cases r <;> cases q <;> decide

/-- The contents of the staging registers. -/
def State.staging (s : State) : (r : StagingReg) → r.Content
  | .bits => s.pBits
  | .poly => s.pPoly
  | .init => s.pInit
  | .xor => s.pXor
  | .refl => s.pRefl

/-- `s` with the staging registers replaced. -/
def State.setStaging (f : (r : StagingReg) → r.Content) (s : State) : State :=
  { s with
    pBits := f .bits
    pPoly := f .poly
    pInit := f .init
    pXor := f .xor
    pRefl := f .refl }

/-- `s` with one staging register replaced. -/
def State.store (r : StagingReg) (x : r.Content) (s : State) : State :=
  s.setStaging (Function.update s.staging r x)

@[simp] theorem State.staging_setStaging (f : (r : StagingReg) → r.Content) (s : State) :
    (s.setStaging f).staging = f := by
  funext r
  cases r <;> rfl

@[simp] theorem State.setStaging_setStaging (f g : (r : StagingReg) → r.Content) (s : State) :
    (s.setStaging f).setStaging g = s.setStaging g := rfl

theorem State.store_comm {r q : StagingReg} (h : r ≠ q) (x : r.Content) (y : q.Content) (s : State) :
    (s.store r x).store q y = (s.store q y).store r x := by
  simp only [State.store, State.staging_setStaging, State.setStaging_setStaging, Function.update_comm h]

theorem State.store_store (r : StagingReg) (x y : r.Content) (s : State) :
    (s.store r x).store r y = s.store r y := by
  simp only [State.store, State.staging_setStaging, State.setStaging_setStaging, Function.update_idem]

theorem State.store_respond (r : StagingReg) (x : r.Content) (d : Word) (s : State) :
    (s.respond d).store r x = (s.store r x).respond d := rfl

/-! ### A parameter write as a command -/

/-- A command of class 0x1 stores its operand in the register of its opcode and completes, in every state. -/
theorem exec_parameterWrite (hi : commandClass i = 1) :
    ∃ r x, opcode i = StagingReg.opcode r ∧ ∀ s : State, exec i s = .next ((s.store r x).respond 0) := by
  cases i with
  | wrbits b => exact ⟨.bits, b, rfl, fun _ => rfl⟩
  | wrpoly v => exact ⟨.poly, v, rfl, fun _ => rfl⟩
  | wrinit v => exact ⟨.init, v, rfl, fun _ => rfl⟩
  | wrxor v => exact ⟨.xor, v, rfl, fun _ => rfl⟩
  | wrrefl f => exact ⟨.refl, f, rfl, fun _ => rfl⟩
  | _ => simp [commandClass, opcode] at hi

theorem execAll_pair {t u : State} (hi : exec i s = .next t) (hj : exec j t = .next u) :
    execAll [i, j] s = .next u := by
  simp only [execAll, hi, hj]

/-! ### A parameter write as a command word -/

theorem runWord_takeV {mk : Word → Instr} (h : decode cw = takeV v mk) (s : State) :
    runWord cw s = exec (mk v) s := runWord_of_ok h s

theorem runWord_takeB {mk : Byte → Instr} (h : decode cw = takeB v mk) (s : State) :
    runWord cw s =
      if v.extractLsb' 8 56 = 0 then exec (mk (v.extractLsb' 0 8)) s else .next (s.reject .illegalCmd) := by
  rw [takeB] at h
  split at h
  case isTrue hv => rw [if_pos hv, runWord_of_ok h]
  case isFalse hv => rw [if_neg hv, runWord_of_error h]

theorem runWord_takeF {mk : Bit → Instr} (h : decode cw = takeF v mk) (s : State) :
    runWord cw s =
      if v.extractLsb' 1 63 = 0 then exec (mk (v.extractLsb' 0 1)) s else .next (s.reject .illegalCmd) := by
  rw [takeF] at h
  split at h
  case isTrue hv => rw [if_pos hv, runWord_of_ok h]
  case isFalse hv => rw [if_neg hv, runWord_of_error h]

/-- The five words of class 0x1, each by the format of its row (30_encoding.md R74). -/
theorem decode_parameterWord :
    (∀ v, decode (wordOf 0x10 v) = takeB v .wrbits) ∧ (∀ v, decode (wordOf 0x11 v) = takeV v .wrpoly) ∧
    (∀ v, decode (wordOf 0x12 v) = takeV v .wrinit) ∧ (∀ v, decode (wordOf 0x13 v) = takeV v .wrxor) ∧
    (∀ v, decode (wordOf 0x14 v) = takeF v .wrrefl) := by
  simp [wordOf, decode, decodeParameter]

/-! ### Validity -/

theorem validBits_iff {n : Nat} : validBits n = true ↔ n = 8 ∨ n = 16 ∨ n = 32 ∨ n = 64 := by
  simp [validBits, or_assoc]

theorem validBuild_iff {bits poly : Nat} :
    validBuild bits poly = true ↔ validBits bits = true ∧ poly < 2 ^ bits := by
  simp [validBuild]

/-! ### The obligations -/

/-- Settles O15: two stores to different registers commute, two to one register are the later one, and the responses
of both are given in either order. -/
theorem parameterWritesCommute : Obligations.ParameterWritesCommute := by
  intro i j s hi hj
  obtain ⟨r, x, hr, hexeci⟩ := exec_parameterWrite hi
  obtain ⟨q, y, hq, hexecj⟩ := exec_parameterWrite hj
  have hij := execAll_pair (hexeci s) (hexecj _)
  have hji := execAll_pair (hexecj s) (hexeci _)
  rw [State.store_respond] at hij hji
  refine ⟨fun hne => ?_, _, _, hexecj s, rfl, hij, fun heq => ?_⟩
  · have hrq : r ≠ q := fun h => hne (by rw [hr, hq, h])
    rw [hij, hji, State.store_comm hrq]
  · obtain rfl : r = q := StagingReg.opcode_injective (by rw [← hr, ← hq, heq])
    rw [State.store_store]
    rfl

/-- Settles O14: the words by their formats, the commands by their own meanings. -/
theorem parameterWrites : Obligations.ParameterWrites := by
  obtain ⟨hbits, hpoly, hinit, hxor, hrefl⟩ := decode_parameterWord
  exact ⟨fun s v => runWord_takeB (hbits v) s, fun _ _ => rfl, fun s v => runWord_takeV (hpoly v) s, fun _ _ => rfl,
    fun s v => runWord_takeV (hinit v) s, fun _ _ => rfl, fun s v => runWord_takeV (hxor v) s, fun _ _ => rfl,
    fun s v => runWord_takeF (hrefl v) s, fun _ _ => rfl⟩

/-- Settles O40: each predicate by its own `↔`, that of `valid_config` through `valid_build`. -/
theorem validityPredicates : Obligations.ValidityPredicates :=
  ⟨fun _ => validBits_iff, fun _ _ => validBuild_iff, fun _ _ _ _ => by
    rw [validConfig_iff, validBuild_iff, and_assoc]⟩

end Sys2Proof.Machine
end

section
/-!
PROOFS. The Table Builder's commands (42_table_builder.md R145 to R147): what a built table answers, BUILD and RDTAB by
command word and as commands, and which commands write the table.
-/

namespace Sys2Proof.Machine

variable {s t u : State} {i : Instr} {cw : CmdWord} {v : Word} {bits poly d : Nat}

/-! ### Valid widths and polynomials -/

theorem eight_le_of_validBits (h : validBits bits = true) : 8 ≤ bits := by
  obtain rfl | rfl | rfl | rfl := validBits_iff.mp h <;> decide

theorem le_64_of_validBits (h : validBits bits = true) : bits ≤ 64 := by
  obtain rfl | rfl | rfl | rfl := validBits_iff.mp h <;> decide

theorem eight_le_of_validBuild (h : validBuild bits poly = true) : 8 ≤ bits :=
  eight_le_of_validBits (validBuild_iff.mp h).1

theorem validBuild_iff_mem : validBuild bits poly = true ↔ bits ∈ [8, 16, 32, 64] ∧ poly < 2 ^ bits := by
  simp [validBuild_iff, validBits_iff]

/-! ### A control command as a command word -/

theorem runWord_takeN (h : decode cw = takeN v i) (s : State) :
    runWord cw s = if v = 0 then exec i s else .next (s.reject .illegalCmd) := by
  rw [takeN] at h
  split at h
  case isTrue hv => rw [if_pos hv, runWord_of_ok h]
  case isFalse hv => rw [if_neg hv, runWord_of_error h]

/-- The seven words of class 0x0, each by the format of its row (30_encoding.md R74). -/
theorem decode_controlWord :
    (∀ v, decode (wordOf 0x00 v) = takeN v .nop) ∧ (∀ v, decode (wordOf 0x01 v) = takeN v .build) ∧
    (∀ v, decode (wordOf 0x02 v) = takeN v .mkeng) ∧ (∀ v, decode (wordOf 0x03 v) = takeN v .start) ∧
    (∀ v, decode (wordOf 0x04 v) = takeV v .byte) ∧ (∀ v, decode (wordOf 0x05 v) = takeN v .finish) ∧
    (∀ v, decode (wordOf 0x06 v) = takeB v .rdtab) := by
  simp [wordOf, decode, decodeControl]

/-! ### The entries of a built table -/

/-- A stored entry is the number `tab_entry` gives: at a legal width it fits the 64 bits. -/
theorem exists_tabRead_buildTable (hbits : validBits bits = true) (poly : Nat) (refl : Bit) (hd : d < 256) :
    ∃ e, tabRead (buildTable bits poly refl) d = some e ∧ e.toNat = tabEntry bits poly refl d := by
  refine ⟨_, by rw [tabRead_buildTable, if_pos hd], (BitVec.toNat_ofNat _ 64).trans (Nat.mod_eq_of_lt ?_)⟩
  exact (tabEntry_lt bits poly refl d).trans_le (Nat.pow_le_pow_right (by decide) (le_64_of_validBits hbits))

/-! ### Which commands write the table -/

theorem Assigns.sameTable (hu : Assigns s i u) (hb : i ≠ .build) (hm : i ≠ .mkeng) : SameTable s u := by
  cases hu with
  | build => exact (hb rfl).elim
  | mkeng => exact (hm rfl).elim
  | _ => exact ⟨rfl, rfl, rfl, rfl, rfl⟩

/-- The table and its tag in `t` are those the staging registers of `s` give (R145). -/
def TableFromStaging (s t : State) : Prop :=
  t.tValid = true ∧ t.tBits = some s.pBits ∧ t.tPoly = some s.pPoly ∧ t.tRefl = some s.pRefl ∧
    t.table = buildTable s.pBits.toNat s.pPoly.toNat s.pRefl

theorem Assigns.tableFromStaging (hu : Assigns s i u) (hi : i = .build ∨ i = .mkeng) : TableFromStaging s u := by
  obtain rfl | rfl := hi
  · cases hu with
    | read hi => exact absurd hi (by decide)
    | build => exact ⟨rfl, rfl, rfl, rfl, rfl⟩
  · cases hu with
    | read hi => exact absurd hi (by decide)
    | mkeng => exact ⟨rfl, rfl, rfl, rfl, rfl⟩

theorem State.reject_sameTable (s : State) (why : Reject) : SameTable s (s.reject why) := ⟨rfl, rfl, rfl, rfl, rfl⟩

/-! ### The obligations -/

/-- Settles O31: a reject keeps table and tag, and of the completed commands only BUILD and MKENG assign them. -/
theorem tableWrittenWhole : Obligations.TableWrittenWhole := by
  intro i s t h
  refine ⟨fun hb hm => ?_, fun why hwhy => hwhy ▸ s.reject_sameTable why, fun hi => ?_⟩
  · cases exec_ends h with
    | rejected why => exact s.reject_sameTable why
    | completed d hu => exact hu.sameTable hb hm
  · cases exec_ends h with
    | rejected why => exact .inl (s.reject_sameTable why)
    | completed d hu => exact .inr (hu.tableFromStaging hi)

/-- Settles O23: `valid_build` of the staging values decides, and a built table answers the entries. -/
theorem buildCommand : Obligations.BuildCommand := by
  obtain ⟨-, hbuild, -⟩ := decode_controlWord
  refine ⟨fun s v => runWord_takeN (hbuild v) s, fun s hs => ⟨?_, fun d hd => ?_⟩, fun s hs => ?_⟩
  · exact if_pos (validBuild_iff_mem.mpr hs)
  · exact exists_tabRead_buildTable (validBuild_iff.mp (validBuild_iff_mem.mpr hs)).1 _ _ hd
  · exact if_neg (mt validBuild_iff_mem.mp hs)

/-- Settles O22: under the invariants the table is the one built for the tag. -/
theorem tableEntryRead : Obligations.TableEntryRead := by
  obtain ⟨-, -, -, -, -, -, hrdtab⟩ := decode_controlWord
  refine ⟨fun s v => runWord_takeB (hrdtab v) s, fun s b ht => needs_of_clear ht _ _ _, fun s b h ht => ?_⟩
  obtain ⟨bits, poly, refl, hbits, hpoly, hrefl, hv, htab⟩ := h.table_built ht
  obtain ⟨d, hd, hentry⟩ := exists_tabRead_buildTable (validBuild_iff.mp hv).1 poly.toNat refl b.isLt
  rw [← htab] at hd
  refine ⟨bits, poly, refl, d, hbits, hpoly, hrefl, hd, hentry, h.tabRead_lt ht hbits hd, ?_⟩
  calc exec (.rdtab b) s
      = withValue (tabRead s.table b.toNat) (.tableEntry b.toNat) fun e => complete e s := needs_of_set ht _ _ _
    _ = .next (s.answered d) := by rw [hd]; rfl

end Sys2Proof.Machine
end

section
/-!
PROOFS. The entries of the table (42_table_builder.md R140 to R144, R148). A round shifts and adds the polynomial when
one bit is set, so it is linear over XOR; masking and reflection each carry the rounds of the non-reflected construction
to the rounds of another one; and the rounds in a register `bits` wide are a long division.
-/

namespace Sys2Proof.Machine

variable {bits poly d w : Nat}

/-! ### What a round adds -/

/-- `p` when the bit `c` is set, else nothing: what a round adds to the shifted register (R140, R141), and a row of a
product of polynomials. -/
def addend (c : Bool) (p : Nat) : Nat := if c then p else 0

@[simp] theorem addend_true (p : Nat) : addend true p = p := rfl

@[simp] theorem addend_false (p : Nat) : addend false p = 0 := rfl

@[simp] theorem addend_zero (c : Bool) : addend c 0 = 0 := ite_self 0

theorem addend_bne (c c' : Bool) (p : Nat) : addend (c ^^ c') p = addend c p ^^^ addend c' p := by
  cases c <;> cases c' <;> simp

theorem addend_xor (c : Bool) (p q : Nat) : addend c (p ^^^ q) = addend c p ^^^ addend c q := by
  cases c <;> simp

theorem testBit_addend (c : Bool) (p j : Nat) : (addend c p).testBit j = (c && p.testBit j) := by
  cases c <;> simp

theorem shiftLeft_addend (c : Bool) (p n : Nat) : addend c p <<< n = addend c (p <<< n) := by
  cases c <;> simp

theorem addend_and_mask (c : Bool) (hp : poly < 2 ^ bits) : addend c poly &&& mask bits = addend c poly := by
  cases c <;> simp [and_mask_eq_mod, Nat.mod_eq_of_lt hp]

theorem reflect_addend (c : Bool) (p bits : Nat) : reflect (addend c p) bits = addend c (reflect p bits) := by
  cases c <;> simp [reflect_zero]

/-! ### One round -/

theorem roundNr_eq (bits poly w : Nat) : roundNr bits poly w = (w <<< 1) ^^^ addend (w.testBit (bits - 1)) poly := by
  simp only [roundNr, and_hiBit_eq_zero_iff]
  cases w.testBit (bits - 1) <;> simp

theorem roundR_eq (rp w : Nat) : roundR rp w = (w >>> 1) ^^^ addend (w.testBit 0) rp := by
  have htest : w &&& 1 = 0 ↔ w.testBit 0 = false := and_hiBit_eq_zero_iff w 1
  simp only [roundR, htest]
  cases w.testBit 0 <;> simp

theorem roundNrMasked_eq (bits poly w : Nat) : roundNrMasked bits poly w = roundNr bits poly w &&& mask bits :=
  (apply_ite (· &&& mask bits) _ _ _).symm

theorem roundNr_xor (bits poly a b : Nat) :
    roundNr bits poly (a ^^^ b) = roundNr bits poly a ^^^ roundNr bits poly b := by
  simp only [roundNr_eq, Nat.shiftLeft_xor_distrib, Nat.testBit_xor, addend_bne]
  ac_rfl

theorem roundR_xor (rp a b : Nat) : roundR rp (a ^^^ b) = roundR rp a ^^^ roundR rp b := by
  simp only [roundR_eq, Nat.shiftRight_xor_distrib, Nat.testBit_xor, addend_bne]
  ac_rfl

/-! ### All the rounds -/

theorem rounds_eq_iterate (round : Nat → Nat) (n : Nat) : rounds round n = round^[n] := by
  induction n with
  | zero => rfl
  | succ n ih => exact congrArg (· ∘ round) ih

theorem rounds_succ (round : Nat → Nat) (n w : Nat) : rounds round (n + 1) w = round (rounds round n w) := by
  simp only [rounds_eq_iterate, Function.iterate_succ_apply']

/-- A map that carries one round to another carries all the rounds. -/
theorem rounds_semiconj {f round round' : Nat → Nat} (h : Function.Semiconj f round round') (n w : Nat) :
    f (rounds round n w) = rounds round' n (f w) := by
  simp only [rounds_eq_iterate]
  exact h.iterate_right n w

theorem rounds_xor {round : Nat → Nat} (h : ∀ a b, round (a ^^^ b) = round a ^^^ round b) (n a b : Nat) :
    rounds round n (a ^^^ b) = rounds round n a ^^^ rounds round n b := by
  induction n with
  | zero => rfl
  | succ n ih => rw [rounds_succ, ih, h, rounds_succ, rounds_succ]

/-- A single set bit is only shifted until it reaches the top of the field. -/
theorem rounds_roundNr_two_pow (poly j n : Nat) (h : j + n < bits) :
    rounds (roundNr bits poly) n (2 ^ j) = 2 ^ (j + n) := by
  induction n with
  | zero => rfl
  | succ n ih =>
    have hbelow : (2 ^ (j + n)).testBit (bits - 1) = false := by
      rw [Nat.testBit_two_pow, decide_eq_false (by omega)]
    rw [rounds_succ, ih (by omega), roundNr_eq, hbelow, addend_false, Nat.xor_zero, Nat.shiftLeft_eq, ← Nat.pow_succ]
    rfl

/-- Without a polynomial the rounds are one shift. -/
theorem rounds_roundNr_zero (bits n w : Nat) : rounds (roundNr bits 0) n w = w <<< n := by
  induction n with
  | zero => rfl
  | succ n ih => rw [rounds_succ, ih, roundNr_eq, addend_zero, Nat.xor_zero, ← Nat.shiftLeft_add]

/-! ### A register `bits` wide (R148) -/

theorem and_mask_of_lt (h : w < 2 ^ bits) : w &&& mask bits = w := by rw [and_mask_eq_mod, Nat.mod_eq_of_lt h]

theorem shiftLeft_bits_and_mask (w bits : Nat) : (w <<< bits) &&& mask bits = 0 := by
  rw [and_mask_eq_mod, Nat.shiftLeft_eq, Nat.mul_mod_left]

theorem and_mask_shiftLeft_and_mask (w bits : Nat) :
    ((w &&& mask bits) <<< 1) &&& mask bits = (w <<< 1) &&& mask bits := by
  refine Nat.eq_of_testBit_eq fun j => ?_
  simp only [Nat.testBit_and, Nat.testBit_shiftLeft, testBit_mask]
  grind

/-- What a round does below `2^bits` depends on the register below `2^bits`. -/
theorem mask_semiconj (hbits : 1 ≤ bits) (poly : Nat) :
    Function.Semiconj (· &&& mask bits) (roundNr bits poly) (roundNrMasked bits poly) := by
  intro w
  have htest : (w &&& mask bits).testBit (bits - 1) = w.testBit (bits - 1) := by
    rw [Nat.testBit_and, testBit_mask, decide_eq_true (by omega), Bool.and_true]
  simp only [roundNrMasked_eq, roundNr_eq, htest, Nat.and_xor_distrib_right, and_mask_shiftLeft_and_mask]

/-- A byte at the top of the field. -/
theorem shiftLeft_shift_lt (hbits : 8 ≤ bits) (hd : d < 256) : d <<< shift bits < 2 ^ bits := by
  calc d <<< shift bits < 2 ^ (8 + shift bits) := Nat.shiftLeft_lt hd
    _ = 2 ^ bits := by rw [shift, Nat.add_sub_cancel' hbits]

theorem shiftLeft_shift_eight (hbits : 8 ≤ bits) (d : Nat) : d <<< shift bits <<< 8 = d <<< bits := by
  rw [← Nat.shiftLeft_add, shift, Nat.sub_add_cancel hbits]

theorem rounds_roundNrMasked (hbits : 8 ≤ bits) (poly : Nat) (hd : d < 256) :
    rounds (roundNrMasked bits poly) 8 (d <<< shift bits) = tabEntryNr bits poly d := by
  have h := rounds_semiconj (mask_semiconj (by omega : 1 ≤ bits) poly) 8 (d <<< shift bits)
  rw [and_mask_of_lt (shiftLeft_shift_lt hbits hd)] at h
  exact h.symm

/-! ### Reflection (R144 (f)) -/

/-- Reflection does not look above the field. -/
theorem reflect_and_mask (v bits : Nat) : reflect (v &&& mask bits) bits = reflect v bits := by
  refine Nat.eq_of_testBit_eq fun j => ?_
  simp only [testBit_reflect, Nat.testBit_and, testBit_mask]
  grind

/-- The top bit, which R140 tests, is bit 0 of the mirror image, which R141 tests. -/
theorem reflect_semiconj (hbits : 1 ≤ bits) (poly : Nat) :
    Function.Semiconj (reflect · bits) (roundNr bits poly) (roundR (reflect poly bits)) := by
  intro w
  have hshift : reflect (w <<< 1) bits = reflect w bits >>> 1 := by rw [← reflect_and_mask, reflect_shiftLeft]
  have htest : (reflect w bits).testBit 0 = w.testBit (bits - 1) := by
    rw [testBit_reflect, decide_eq_true (by omega), Bool.true_and, Nat.sub_zero]
  simp only [roundNr_eq, roundR_eq, reflect_xor, reflect_addend, hshift, htest]

/-- A byte at the top of the field is reflected within its own 8 bits. -/
theorem reflect_shiftLeft_shift (hbits : 8 ≤ bits) (d : Nat) : reflect (d <<< shift bits) bits = reflect d 8 := by
  refine Nat.eq_of_testBit_eq fun j => ?_
  have hback : bits - 1 - j - shift bits = 8 - 1 - j := by unfold shift; omega
  have hfield : j < bits ∧ bits - 1 - j ≥ shift bits ↔ j < 8 := by unfold shift; omega
  simp only [testBit_reflect, Nat.testBit_shiftLeft, hback, ← Bool.and_assoc, ← Bool.decide_and, hfield]

theorem tabEntryR_eq_reflect (hbits : 8 ≤ bits) (poly : Nat) (hd : d < 256) :
    tabEntryR bits poly d = reflect (tabEntryNr bits poly (reflect d 8)) bits := by
  have hstart : reflect (reflect d 8 <<< shift bits) bits = d := by
    rw [reflect_shiftLeft_shift hbits, reflect_reflect hd]
  have h := rounds_semiconj (reflect_semiconj (by omega : 1 ≤ bits) poly) 8 (reflect d 8 <<< shift bits)
  rw [hstart] at h
  calc tabEntryR bits poly d
      = reflect (rounds (roundNr bits poly) 8 (reflect d 8 <<< shift bits)) bits &&& mask bits :=
        congrArg (· &&& mask bits) h.symm
    _ = reflect (rounds (roundNr bits poly) 8 (reflect d 8 <<< shift bits)) bits := and_mask_of_lt (reflect_lt _ _)
    _ = reflect (tabEntryNr bits poly (reflect d 8)) bits := (reflect_and_mask _ _).symm

/-! ### Division (R144 (e)) -/

theorem clmul_succ (a b n : Nat) : clmul a b (n + 1) = clmul a b n ^^^ addend (a.testBit n) (b <<< n) := rfl

/-- The product by a polynomial with one more coefficient, at the bottom. -/
theorem clmul_bit (c : Bool) (q b n : Nat) : clmul (Nat.bit c q) b (n + 1) = (clmul q b n <<< 1) ^^^ addend c b := by
  induction n with
  | zero => simp [clmul, addend]
  | succ n ih =>
    rw [clmul_succ, ih, Nat.testBit_bit_succ, clmul_succ, Nat.shiftLeft_xor_distrib, shiftLeft_addend,
      Nat.shiftLeft_add]
    ac_rfl

/-- A shift moves one bit out of the field. -/
theorem shiftLeft_one_and_mask (hbits : 1 ≤ bits) (hw : w < 2 ^ bits) :
    (w <<< 1) &&& mask bits = (w <<< 1) ^^^ addend (w.testBit (bits - 1)) (2 ^ bits) := by
  refine Nat.eq_of_testBit_eq fun j => ?_
  simp only [Nat.testBit_xor, Nat.testBit_and, Nat.testBit_shiftLeft, testBit_mask, testBit_addend, Nat.testBit_two_pow]
  obtain hlow | rfl | habove := lt_trichotomy j bits
  · simp [hlow, hlow.ne']
  · simp [hbits]
  · have hclear : w.testBit (j - 1) = false :=
      Nat.testBit_lt_two_pow (hw.trans_le (Nat.pow_le_pow_right (by decide) (by omega)))
    simp [hclear, habove.ne]

/-- One step of the division: a round takes the divisor away when the bit shifted out is set. -/
theorem roundNrMasked_eq_shiftLeft (hbits : 1 ≤ bits) (hp : poly < 2 ^ bits) (hw : w < 2 ^ bits) :
    roundNrMasked bits poly w = (w <<< 1) ^^^ addend (w.testBit (bits - 1)) (2 ^ bits ^^^ poly) := by
  rw [roundNrMasked_eq, roundNr_eq, Nat.and_xor_distrib_right, shiftLeft_one_and_mask hbits hw, addend_and_mask _ hp,
    addend_xor, Nat.xor_assoc]

theorem rounds_roundNrMasked_lt (poly : Nat) (hw : w < 2 ^ bits) (n : Nat) :
    rounds (roundNrMasked bits poly) n w < 2 ^ bits := by
  cases n with
  | zero => exact hw
  | succ n =>
    rw [rounds_succ, roundNrMasked_eq]
    exact and_mask_lt _ _

/-- After `n` rounds the quotient has `n` bits, those shifted out, and the register holds the remainder. -/
theorem rounds_roundNrMasked_divides (hbits : 1 ≤ bits) (hp : poly < 2 ^ bits) (hw : w < 2 ^ bits) (n : Nat) :
    ∃ q, q < 2 ^ n ∧ w <<< n = clmul q (2 ^ bits ^^^ poly) n ^^^ rounds (roundNrMasked bits poly) n w := by
  induction n with
  | zero => exact ⟨0, Nat.one_pos, (Nat.zero_xor w).symm⟩
  | succ n ih =>
    obtain ⟨q, hq, hdiv⟩ := ih
    have hstep := roundNrMasked_eq_shiftLeft hbits hp (rounds_roundNrMasked_lt poly hw n)
    refine ⟨Nat.bit ((rounds (roundNrMasked bits poly) n w).testBit (bits - 1)) q,
      Nat.bit_lt_two_pow_succ_iff.mpr hq, ?_⟩
    rw [Nat.shiftLeft_add, hdiv, Nat.shiftLeft_xor_distrib, clmul_bit, rounds_succ, hstep]
    grind

/-! ### The named entries and linearity (R144 (b), (c), (d), (g)) -/

theorem tabEntryNr_xor (bits poly a b : Nat) :
    tabEntryNr bits poly (a ^^^ b) = tabEntryNr bits poly a ^^^ tabEntryNr bits poly b := by
  simp only [tabEntryNr, Nat.shiftLeft_xor_distrib, rounds_xor (roundNr_xor bits poly), Nat.and_xor_distrib_right]

theorem tabEntryR_xor (bits poly a b : Nat) :
    tabEntryR bits poly (a ^^^ b) = tabEntryR bits poly a ^^^ tabEntryR bits poly b := by
  simp only [tabEntryR, rounds_xor (roundR_xor (reflect poly bits)), Nat.and_xor_distrib_right]

theorem tabEntry_xor (bits poly : Nat) (refl : Bit) (a b : Nat) :
    tabEntry bits poly refl (a ^^^ b) = tabEntry bits poly refl a ^^^ tabEntry bits poly refl b := by
  unfold tabEntry
  split
  · exact tabEntryNr_xor bits poly a b
  · exact tabEntryR_xor bits poly a b

/-- What a linear function gives at 0. -/
theorem tabEntry_zero (bits poly : Nat) (refl : Bit) : tabEntry bits poly refl 0 = 0 := by
  simpa using tabEntry_xor bits poly refl 0 0

/-- Seven rounds shift the bit of the byte 1 to the top of the field, and the eighth adds the polynomial. -/
theorem tabEntryNr_one (hbits : 8 ≤ bits) (hp : poly < 2 ^ bits) : tabEntryNr bits poly 1 = poly := by
  have htop : shift bits + 7 = bits - 1 := by unfold shift; omega
  have hseven : rounds (roundNr bits poly) 7 (1 <<< shift bits) = 2 ^ (bits - 1) := by
    rw [Nat.one_shiftLeft, rounds_roundNr_two_pow poly _ _ (by omega), htop]
  have hout : (2 ^ (bits - 1)) <<< 1 = 1 <<< bits := by
    rw [← Nat.one_shiftLeft, ← Nat.shiftLeft_add, Nat.sub_add_cancel (by omega)]
  rw [tabEntryNr, Config.rounds, rounds_succ, hseven, roundNr_eq, Nat.testBit_two_pow_self, addend_true, hout,
    Nat.and_xor_distrib_right, shiftLeft_bits_and_mask, and_mask_of_lt hp, Nat.zero_xor]

/-- Without a polynomial the eight rounds shift the byte out of the field. -/
theorem tabEntryNr_zero_poly (hbits : 8 ≤ bits) (d : Nat) : tabEntryNr bits 0 d = 0 := by
  rw [tabEntryNr, rounds_roundNr_zero, Config.rounds, shiftLeft_shift_eight hbits, shiftLeft_bits_and_mask]

/-- The byte 0x80 is the mirror image of the byte 1. -/
theorem tabEntryR_0x80 (hbits : 8 ≤ bits) (hp : poly < 2 ^ bits) : tabEntryR bits poly 0x80 = reflect poly bits := by
  have hbyte : reflect 0x80 8 = 1 := by decide
  rw [tabEntryR_eq_reflect hbits poly (by decide), hbyte, tabEntryNr_one hbits hp]

theorem tabEntry_zero_poly (hbits : 8 ≤ bits) (refl : Bit) (hd : d < 256) : tabEntry bits 0 refl d = 0 := by
  unfold tabEntry
  split
  · exact tabEntryNr_zero_poly hbits d
  · rw [tabEntryR_eq_reflect hbits 0 hd, tabEntryNr_zero_poly hbits, reflect_zero]

/-! ### The obligations -/

/-- Settles O41: linearity gives entry 0, the rounds of a single bit give entry 1, and its mirror image entry 0x80. -/
theorem tableProperties : Obligations.TableProperties := by
  intro bits poly refl hv
  have hbits := eight_le_of_validBuild hv
  have hp := (validBuild_iff.mp hv).2
  refine ⟨fun d _ => tabEntry_lt bits poly refl d, tabEntry_zero bits poly refl,
    fun a b _ _ => tabEntry_xor bits poly refl a b, ?_, ?_, ?_⟩
  · rintro rfl
    exact tabEntryNr_one hbits hp
  · rintro rfl
    exact tabEntryR_0x80 hbits hp
  · rintro rfl d hd
    exact tabEntry_zero_poly hbits refl hd

/-- Settles O42: the eight rounds, in the register `bits` wide, are eight steps of the division. -/
theorem entryIsPolynomialRemainder : Obligations.EntryIsPolynomialRemainder := by
  intro bits poly d hv hd
  have hbits := eight_le_of_validBuild hv
  have hdiv := rounds_roundNrMasked_divides (by omega) (validBuild_iff.mp hv).2 (shiftLeft_shift_lt hbits hd) 8
  rw [rounds_roundNrMasked hbits poly hd, shiftLeft_shift_eight hbits] at hdiv
  exact ⟨tabEntry_lt bits poly 0 d, hdiv⟩

/-- Settles O43: reflection carries each round of one construction to a round of the other. -/
theorem constructionsMirror : Obligations.ConstructionsMirror :=
  fun _ poly _ hv hd => tabEntryR_eq_reflect (eight_le_of_validBuild hv) poly hd

/-- Settles O44: masking carries each round of the unbounded register to a round of the bounded one. -/
theorem boundedRegisterSameEntry : Obligations.BoundedRegisterSameEntry :=
  fun _ poly _ hv hd => rounds_roundNrMasked (eight_le_of_validBuild hv) poly hd

end Sys2Proof.Machine
end

section
/-!
PROOFS. The update of the accumulator (43_crc_engine.md R170 to R175, R184). At every width both general rules hold, the
width-8 rule being a case of each; eight rounds of division split into those of the byte that leaves the register, which
the table holds, and a shift of the rest; and every part of an update is linear over XOR.
-/

namespace Sys2Proof.Machine

variable {bits poly cur byte w : Nat} {refl : Bit} {T : Nat → Nat}

/-! ### The general rules at every width (R170 to R174) -/

theorem and_0xFF_of_lt (h : w < 256) : w &&& 0xFF = w := and_mask_of_lt (bits := 8) h

/-- The rule at width 8 (R170). -/
theorem update_eight (refl : Bit) (T : Nat → Nat) (cur byte : Nat) :
    update 8 refl T cur byte = T (cur ^^^ byte) := rfl

/-- The non-reflected rule (R171), which at width 8 is R170: the shifted accumulator leaves the field. -/
theorem update_nr (hT : ∀ i, i < 256 → T i < 2 ^ bits) (hcur : cur < 2 ^ bits) (hbyte : byte < 256) :
    update bits 0 T cur byte = ((cur <<< 8) ^^^ T (((cur >>> shift bits) ^^^ byte) &&& 0xFF)) &&& mask bits := by
  by_cases h8 : bits = 8
  · subst h8
    have hindex : cur ^^^ byte < 256 := Nat.xor_lt_two_pow (n := 8) hcur hbyte
    have hshift : cur >>> shift 8 = cur := rfl
    rw [update_eight, hshift, and_0xFF_of_lt hindex, Nat.and_xor_distrib_right, shiftLeft_bits_and_mask, Nat.zero_xor,
      and_mask_of_lt (hT _ hindex)]
  · simp [update, updateIndex, updateNext, h8]

/-- The reflected rule (R172), which at width 8 is R170: the shifted accumulator is 0. -/
theorem update_r (hT : ∀ i, i < 256 → T i < 2 ^ bits) (hcur : cur < 2 ^ bits) (hbyte : byte < 256) :
    update bits 1 T cur byte = ((cur >>> 8) ^^^ T ((cur ^^^ byte) &&& 0xFF)) &&& mask bits := by
  by_cases h8 : bits = 8
  · subst h8
    have hindex : cur ^^^ byte < 256 := Nat.xor_lt_two_pow (n := 8) hcur hbyte
    rw [update_eight, and_0xFF_of_lt hindex, Nat.shiftRight_eq_zero _ _ hcur, Nat.zero_xor,
      and_mask_of_lt (hT _ hindex)]
  · simp [update, updateIndex, updateNext, h8]

theorem update_lt (hT : ∀ i, i < 256 → T i < 2 ^ bits) (hcur : cur < 2 ^ bits) (hbyte : byte < 256) :
    update bits refl T cur byte < 2 ^ bits :=
  updateNext_lt refl cur (hT _ (updateIndex_lt refl hcur hbyte))

theorem update_tabEntry_lt (bits poly : Nat) (refl : Bit) (cur byte : Nat) :
    update bits refl (tabEntry bits poly refl) cur byte < 2 ^ bits :=
  updateNext_lt refl cur (tabEntry_lt bits poly refl _)

/-! ### Eight rounds of the division, non-reflected (R175) -/

/-- While no set bit has reached the top of the field, the rounds only shift. -/
theorem rounds_roundNr_of_lt (poly : Nat) {n : Nat} (hn : n ≤ bits) (hw : w < 2 ^ (bits - n)) :
    rounds (roundNr bits poly) n w = w <<< n := by
  induction n with
  | zero => rfl
  | succ n ih =>
    have hbelow : w < 2 ^ (bits - 1 - n) := by rwa [Nat.sub_sub, Nat.add_comm 1 n]
    have htop : (w <<< n).testBit (bits - 1) = false := by
      rw [Nat.testBit_shiftLeft, Nat.testBit_lt_two_pow hbelow, Bool.and_false]
    rw [rounds_succ, ih (by omega) (hw.trans_le (Nat.pow_le_pow_right (by decide) (by omega))), roundNr_eq, htop,
      addend_false, Nat.xor_zero, ← Nat.shiftLeft_add]

/-- The two parts of a register: below bit `n`, and from it on. -/
theorem mod_xor_shiftRight_shiftLeft (w n : Nat) : (w % 2 ^ n) ^^^ (w >>> n <<< n) = w := by
  refine Nat.eq_of_testBit_eq fun j => ?_
  simp only [Nat.testBit_xor, Nat.testBit_mod_two_pow, Nat.testBit_shiftLeft, Nat.testBit_shiftRight]
  obtain hj | hj := lt_or_ge j n
  · simp [hj, hj.not_ge]
  · simp [hj, hj.not_gt, Nat.add_sub_cancel' hj]

theorem mod_shift_shiftLeft (hbits : 8 ≤ bits) (w : Nat) : (w % 2 ^ shift bits) <<< 8 = (w <<< 8) &&& mask bits := by
  rw [and_mask_eq_mod, Nat.shiftLeft_eq, Nat.shiftLeft_eq, ← Nat.mul_mod_mul_right, ← Nat.pow_add, shift,
    Nat.sub_add_cancel hbits]

/-- The rest of the register is shifted; the table holds what the division makes of its top byte. -/
theorem rounds_roundNr_and_mask (hbits : 8 ≤ bits) (poly w : Nat) :
    rounds (roundNr bits poly) 8 w &&& mask bits =
      ((w <<< 8) &&& mask bits) ^^^ tabEntryNr bits poly (w >>> shift bits) := by
  have hlow : rounds (roundNr bits poly) 8 (w % 2 ^ shift bits) = (w <<< 8) &&& mask bits := by
    have hrest : w % 2 ^ shift bits < 2 ^ (bits - 8) := Nat.mod_lt w (Nat.two_pow_pos (shift bits))
    rw [rounds_roundNr_of_lt poly hbits hrest, mod_shift_shiftLeft hbits]
  calc rounds (roundNr bits poly) 8 w &&& mask bits
      = rounds (roundNr bits poly) 8 ((w % 2 ^ shift bits) ^^^ (w >>> shift bits <<< shift bits)) &&& mask bits := by
        rw [mod_xor_shiftRight_shiftLeft]
    _ = ((w <<< 8) &&& mask bits) ^^^ tabEntryNr bits poly (w >>> shift bits) := by
        rw [rounds_xor (roundNr_xor bits poly), hlow, Nat.and_xor_distrib_right, Nat.and_assoc, Nat.and_self]
        rfl

/-- The register `bits` wide, by the rounds in the unbounded one. -/
theorem serialNr_eq (hbits : 8 ≤ bits) (poly : Nat) (hcur : cur < 2 ^ bits) (hbyte : byte < 256) :
    serialNr bits poly cur byte = rounds (roundNr bits poly) 8 (cur ^^^ (byte <<< shift bits)) &&& mask bits := by
  have hfield := Nat.xor_lt_two_pow hcur (shiftLeft_shift_lt hbits hbyte)
  have h := rounds_semiconj (mask_semiconj (by omega : 1 ≤ bits) poly) 8 (cur ^^^ (byte <<< shift bits))
  rw [and_mask_of_lt hfield] at h
  exact h.symm

theorem update_nr_eq_serialNr (hbits : 8 ≤ bits) (poly : Nat) (hcur : cur < 2 ^ bits) (hbyte : byte < 256) :
    update bits 0 (tabEntry bits poly 0) cur byte = serialNr bits poly cur byte := by
  have htop : (cur >>> shift bits) ^^^ byte < 256 := Nat.xor_lt_two_pow (n := 8) (shiftRight_shift_lt hbits hcur) hbyte
  have hentry : tabEntryNr bits poly ((cur >>> shift bits) ^^^ byte) < 2 ^ bits := tabEntry_lt bits poly 0 _
  calc update bits 0 (tabEntry bits poly 0) cur byte
      = ((cur <<< 8) ^^^ tabEntryNr bits poly ((cur >>> shift bits) ^^^ byte)) &&& mask bits := by
        rw [update_nr (fun i _ => tabEntry_lt bits poly 0 i) hcur hbyte, and_0xFF_of_lt htop]
        rfl
    _ = serialNr bits poly cur byte := by
        rw [serialNr_eq hbits poly hcur hbyte, rounds_roundNr_and_mask hbits, Nat.shiftLeft_xor_distrib,
          shiftLeft_shift_eight hbits, Nat.and_xor_distrib_right, Nat.and_xor_distrib_right, shiftLeft_bits_and_mask,
          Nat.xor_zero, Nat.shiftRight_xor_distrib, Nat.shiftLeft_shiftRight, and_mask_of_lt hentry]

/-! ### Eight rounds of the division, reflected (R175) -/

/-- While no bit is set at the bottom, the rounds only shift. -/
theorem rounds_roundR_shiftLeft (rp w n : Nat) : rounds (roundR rp) n (w <<< n) = w := by
  induction n with
  | zero => rfl
  | succ n ih =>
    have hround : roundR rp (w <<< (n + 1)) = w <<< n := by
      rw [roundR_eq, Nat.testBit_shiftLeft, decide_eq_false (by omega), Bool.false_and, addend_false, Nat.xor_zero,
        Nat.shiftLeft_add, Nat.shiftLeft_shiftRight]
    rw [rounds, hround, ih]

/-- The rest of the register is shifted, beside what the division makes of its low byte. -/
theorem rounds_roundR (rp w : Nat) :
    rounds (roundR rp) 8 w = (w >>> 8) ^^^ rounds (roundR rp) 8 (w &&& 0xFF) := by
  have hlow : w &&& 0xFF = w % 2 ^ 8 := and_mask_eq_mod w 8
  conv_lhs => rw [← mod_xor_shiftRight_shiftLeft w 8]
  rw [rounds_xor (roundR_xor rp), rounds_roundR_shiftLeft, hlow, Nat.xor_comm]

/-- Reflected division is the mirror image of non-reflected division (R187, for one byte). -/
theorem serialR_eq_reflect (hbits : 8 ≤ bits) (poly : Nat) (hcur : cur < 2 ^ bits) (hbyte : byte < 256) :
    serialR bits poly cur byte = reflect (serialNr bits poly (reflect cur bits) (reflect byte 8)) bits := by
  have h := rounds_semiconj (reflect_semiconj (by omega : 1 ≤ bits) poly) 8
    (reflect cur bits ^^^ (reflect byte 8 <<< shift bits))
  rw [reflect_xor, reflect_shiftLeft_shift hbits, reflect_reflect hcur, reflect_reflect hbyte] at h
  rw [serialNr_eq hbits poly (reflect_lt _ _) (reflect_lt _ 8), reflect_and_mask]
  exact h.symm

theorem update_r_eq_serialR (hbits : 8 ≤ bits) (poly : Nat) (hcur : cur < 2 ^ bits) (hbyte : byte < 256) :
    update bits 1 (tabEntry bits poly 1) cur byte = serialR bits poly cur byte := by
  have hfield : serialR bits poly cur byte < 2 ^ bits := by
    rw [serialR_eq_reflect hbits poly hcur hbyte]
    exact reflect_lt _ _
  have hsplit : serialR bits poly cur byte =
      (cur >>> 8) ^^^ rounds (roundR (reflect poly bits)) 8 ((cur ^^^ byte) &&& 0xFF) := by
    rw [serialR, rounds_roundR, Nat.shiftRight_xor_distrib, Nat.shiftRight_eq_zero byte 8 hbyte, Nat.xor_zero]
  calc update bits 1 (tabEntry bits poly 1) cur byte
      = ((cur >>> 8) ^^^ tabEntryR bits poly ((cur ^^^ byte) &&& 0xFF)) &&& mask bits :=
        update_r (fun i _ => tabEntry_lt bits poly 1 i) hcur hbyte
    _ = serialR bits poly cur byte &&& mask bits := by
        rw [hsplit, tabEntryR, Config.rounds, Nat.and_xor_distrib_right, Nat.and_assoc, Nat.and_self,
          ← Nat.and_xor_distrib_right]
    _ = serialR bits poly cur byte := and_mask_of_lt hfield

theorem update_r_eq_reflect (hbits : 8 ≤ bits) (poly : Nat) (hcur : cur < 2 ^ bits) (hbyte : byte < 256) :
    update bits 1 (tabEntry bits poly 1) cur byte =
      reflect (update bits 0 (tabEntry bits poly 0) (reflect cur bits) (reflect byte 8)) bits := by
  rw [update_r_eq_serialR hbits poly hcur hbyte, serialR_eq_reflect hbits poly hcur hbyte,
    update_nr_eq_serialNr hbits poly (reflect_lt _ _) (reflect_lt _ 8)]

/-! ### Linearity, and a byte of the accumulator itself (R184) -/

theorem updateIndex_xor (bits : Nat) (refl : Bit) (c c' b b' : Nat) :
    updateIndex bits refl (c ^^^ c') (b ^^^ b') = updateIndex bits refl c b ^^^ updateIndex bits refl c' b' := by
  unfold updateIndex
  split
  · ac_rfl
  · split
    all_goals
      simp only [Nat.shiftRight_xor_distrib, Nat.and_xor_distrib_right]
      ac_rfl

theorem updateNext_xor (bits : Nat) (refl : Bit) (c c' e e' : Nat) :
    updateNext bits refl (c ^^^ c') (e ^^^ e') = updateNext bits refl c e ^^^ updateNext bits refl c' e' := by
  unfold updateNext
  split
  · rfl
  · split
    all_goals
      simp only [Nat.shiftLeft_xor_distrib, Nat.shiftRight_xor_distrib, Nat.and_xor_distrib_right]
      ac_rfl

theorem update_xor (bits poly : Nat) (refl : Bit) (c c' b b' : Nat) :
    update bits refl (tabEntry bits poly refl) (c ^^^ c') (b ^^^ b') =
      update bits refl (tabEntry bits poly refl) c b ^^^ update bits refl (tabEntry bits poly refl) c' b' := by
  simp only [update, updateIndex_xor, tabEntry_xor, updateNext_xor]

/-- What a linear function gives at 0. -/
theorem update_zero (bits poly : Nat) (refl : Bit) : update bits refl (tabEntry bits poly refl) 0 0 = 0 := by
  simpa using update_xor bits poly refl 0 0 0 0

/-- The accumulator's top byte makes the index 0, and the entry there is 0. -/
theorem update_nr_topByte (hbits : 8 ≤ bits) (poly : Nat) (hcur : cur < 2 ^ bits) :
    update bits 0 (tabEntry bits poly 0) cur (cur >>> shift bits) = (cur <<< 8) &&& mask bits := by
  rw [update_nr (fun i _ => tabEntry_lt bits poly 0 i) hcur (shiftRight_shift_lt hbits hcur), Nat.xor_self,
    Nat.zero_and, tabEntry_zero, Nat.xor_zero]

/-- The accumulator's low byte makes the index 0, and the entry there is 0. -/
theorem update_r_lowByte (poly : Nat) (hcur : cur < 2 ^ bits) :
    update bits 1 (tabEntry bits poly 1) cur (cur &&& 0xFF) = cur >>> 8 := by
  have hindex : (cur ^^^ (cur &&& 0xFF)) &&& 0xFF = 0 := by
    rw [Nat.and_xor_distrib_right, Nat.and_assoc, Nat.and_self, Nat.xor_self]
  rw [update_r (fun i _ => tabEntry_lt bits poly 1 i) hcur (Nat.and_lt_two_pow (n := 8) _ (by decide)), hindex,
    tabEntry_zero, Nat.xor_zero, and_mask_of_lt ((Nat.shiftRight_le cur 8).trans_lt hcur)]

/-! ### The obligations -/

/-- Settles O45: the selected rule by its width and mode; at width 8 each general rule is the update itself. -/
theorem updateRules : Obligations.UpdateRules := by
  intro bits refl T cur byte _ hT hcur hbyte
  refine ⟨?_, ?_, ?_, update_lt hT hcur hbyte, ?_⟩
  · rintro rfl
    exact update_eight refl T cur byte
  · rintro - rfl
    exact update_nr hT hcur hbyte
  · rintro - rfl
    exact update_r hT hcur hbyte
  · rintro rfl
    exact ⟨(update_nr hT hcur hbyte).symm, (update_r hT hcur hbyte).symm⟩

/-- Settles O46: the rounds shift the rest of the register, and the table holds those of the byte that leaves it. -/
theorem updateIsBitSerialDivision : Obligations.UpdateIsBitSerialDivision := by
  intro bits poly cur byte hv hcur hbyte
  have hbits := eight_le_of_validBuild hv
  exact ⟨update_nr_eq_serialNr hbits poly hcur hbyte, update_r_eq_serialR hbits poly hcur hbyte⟩

end Sys2Proof.Machine
end

section
/-!
PROOFS. The fold and `compute` (43_crc_engine.md R176, R177, R183 to R187). A fold is linear over XOR and takes the
reflected mode to the mirror image of the other; a CRC fed back byte by byte, from the end at which it leaves the
register, is shifted out of it.
-/

namespace Sys2Proof.Machine

variable {bits poly init xor c : Nat} {refl : Bit} {l s : List Nat}

/-! ### Folds (R176) -/

theorem fold_eq_foldl (bits : Nat) (refl : Bit) (T : Nat → Nat) (acc : Nat) (s : List Nat) :
    fold bits refl T acc s = s.foldl (update bits refl T) acc := by
  induction s generalizing acc with
  | nil => rfl
  | cons b s ih => exact ih _

theorem fold_append (bits : Nat) (refl : Bit) (T : Nat → Nat) (acc : Nat) (s t : List Nat) :
    fold bits refl T acc (s ++ t) = fold bits refl T (fold bits refl T acc s) t := by
  simp only [fold_eq_foldl, List.foldl_append]

theorem fold_lt (poly : Nat) (refl : Bit) (s : List Nat) (hc : c < 2 ^ bits) :
    fold bits refl (tabEntry bits poly refl) c s < 2 ^ bits := by
  induction s generalizing c with
  | nil => exact hc
  | cons b s ih => exact ih (update_tabEntry_lt bits poly refl c b)

/-- Two sequences of one length, given as functions of the same positions. -/
theorem fold_xor (bits poly : Nat) (refl : Bit) (f g : Nat → Nat) (c c' : Nat) (l : List Nat) :
    fold bits refl (tabEntry bits poly refl) (c ^^^ c') (l.map fun k => f k ^^^ g k) =
      fold bits refl (tabEntry bits poly refl) c (l.map f) ^^^
        fold bits refl (tabEntry bits poly refl) c' (l.map g) := by
  induction l generalizing c c' with
  | nil => rfl
  | cons k l ih => simp only [List.map_cons, fold, update_xor, ih]

/-- Reflected, the fold is the mirror image of the non-reflected one on the mirror images of its inputs (R187). -/
theorem fold_r_eq_reflect (hbits : 8 ≤ bits) (poly : Nat) (hs : AllBytes s) (hc : c < 2 ^ bits) :
    fold bits 1 (tabEntry bits poly 1) c s =
      reflect (fold bits 0 (tabEntry bits poly 0) (reflect c bits) (s.map fun b => reflect b 8)) bits := by
  induction s generalizing c with
  | nil => exact (reflect_reflect hc).symm
  | cons b s ih =>
    obtain ⟨hb, hs⟩ := List.forall_mem_cons.mp hs
    rw [fold, ih hs (update_tabEntry_lt bits poly 1 c b), update_r_eq_reflect hbits poly hc hb,
      reflect_reflect (update_tabEntry_lt bits poly 0 _ _)]
    rfl

/-! ### A CRC fed back (R184) -/

theorem byteOf_xor (a b k : Nat) : byteOf (a ^^^ b) k = byteOf a k ^^^ byteOf b k := by
  simp only [byteOf, Nat.shiftRight_xor_distrib, Nat.and_xor_distrib_right]

theorem byteOf_zero (c : Nat) : byteOf c 0 = c &&& 0xFF := rfl

theorem byteOf_succ (c k : Nat) : byteOf c (k + 1) = byteOf (c >>> 8) k := by
  rw [byteOf, byteOf, ← Nat.shiftRight_add, Nat.mul_succ, Nat.add_comm]

theorem leBytes_eq (bits c : Nat) : leBytes bits c = (List.range (bits / 8)).map (byteOf c) := rfl

theorem beBytes_eq (bits c : Nat) : beBytes bits c = (List.range (bits / 8)).reverse.map (byteOf c) :=
  List.map_reverse.symm

theorem eight_mul_div_of_validBits (h : validBits bits = true) : 8 * (bits / 8) = bits := by
  obtain rfl | rfl | rfl | rfl := validBits_iff.mp h <;> rfl

/-- Each byte fed, least significant first, shifts the register down by itself. -/
theorem fold_r_lowBytes (poly n : Nat) (hc : c < 2 ^ bits) :
    fold bits 1 (tabEntry bits poly 1) c ((List.range n).map (byteOf c)) = c >>> (8 * n) := by
  induction n generalizing c with
  | zero => rfl
  | succ n ih =>
    have hrest : (byteOf c ∘ Nat.succ) = byteOf (c >>> 8) := funext (byteOf_succ c)
    rw [List.range_succ_eq_map, List.map_cons, List.map_map, hrest, fold, byteOf_zero, update_r_lowByte poly hc,
      ih ((Nat.shiftRight_le c 8).trans_lt hc), ← Nat.shiftRight_add, Nat.mul_succ, Nat.add_comm]

theorem fold_r_fedBack (hbits : validBits bits = true) (poly : Nat) (hc : c < 2 ^ bits) :
    fold bits 1 (tabEntry bits poly 1) c ((List.range (bits / 8)).map (byteOf c)) = 0 := by
  rw [fold_r_lowBytes poly _ hc, eight_mul_div_of_validBits hbits, Nat.shiftRight_eq_zero c bits hc]

/-- What a shift leaves in the field depends on the field alone. -/
theorem and_mask_shiftLeft (w bits n : Nat) : ((w &&& mask bits) <<< n) &&& mask bits = (w <<< n) &&& mask bits := by
  refine Nat.eq_of_testBit_eq fun j => ?_
  simp only [Nat.testBit_and, Nat.testBit_shiftLeft, testBit_mask]
  grind

theorem mask_shiftRight_shift (hbits : 8 ≤ bits) : mask bits >>> shift bits = mask 8 := by
  refine Nat.eq_of_testBit_eq fun j => ?_
  have hfield : shift bits + j < bits ↔ j < 8 := by unfold shift; omega
  rw [Nat.testBit_shiftRight, testBit_mask, testBit_mask, decide_eq_decide.mpr hfield]

/-- While the low `n + 1` bytes of `c` are left at the top of the register, the top byte is byte `n`. -/
theorem remaining_topByte {n : Nat} (hn : 8 * (n + 1) ≤ bits) (c : Nat) :
    ((c <<< (bits - 8 * (n + 1))) &&& mask bits) >>> shift bits = byteOf c n := by
  have hshift : shift bits = bits - 8 * (n + 1) + 8 * n := by unfold shift; omega
  rw [Nat.shiftRight_and_distrib, mask_shiftRight_shift (by omega), hshift, Nat.shiftRight_add,
    Nat.shiftLeft_shiftRight]
  rfl

theorem remaining_shiftLeft {n : Nat} (hn : 8 * (n + 1) ≤ bits) (c : Nat) :
    (((c <<< (bits - 8 * (n + 1))) &&& mask bits) <<< 8) &&& mask bits = (c <<< (bits - 8 * n)) &&& mask bits := by
  have hshift : bits - 8 * n = bits - 8 * (n + 1) + 8 := by omega
  rw [hshift, Nat.shiftLeft_add, and_mask_shiftLeft]

/-- Each byte fed, most significant first, shifts the register up by itself. -/
theorem fold_nr_highBytes (hbits : 8 ≤ bits) (poly c n : Nat) (hn : 8 * n ≤ bits) :
    fold bits 0 (tabEntry bits poly 0) ((c <<< (bits - 8 * n)) &&& mask bits) ((List.range n).reverse.map (byteOf c)) =
      0 := by
  induction n with
  | zero => exact shiftLeft_bits_and_mask c bits
  | succ n ih =>
    rw [List.range_succ, List.reverse_concat, List.map_cons, fold, ← remaining_topByte hn,
      update_nr_topByte hbits poly (and_mask_lt _ _), remaining_shiftLeft hn, ih (by omega)]

theorem fold_nr_fedBack (hbits : validBits bits = true) (poly : Nat) (hc : c < 2 ^ bits) :
    fold bits 0 (tabEntry bits poly 0) c ((List.range (bits / 8)).reverse.map (byteOf c)) = 0 := by
  have h8 := eight_mul_div_of_validBits hbits
  have h := fold_nr_highBytes (eight_le_of_validBits hbits) poly c (bits / 8) h8.le
  rwa [h8, Nat.sub_self, Nat.shiftLeft_zero, and_mask_of_lt hc] at h

/-! ### The check of a message with its CRC (R185, R186) -/

section

-- An accumulator fed back to itself, its bytes taken in the order `l`, ends at 0.
variable (hl : ∀ c < 2 ^ bits, fold bits refl (tabEntry bits poly refl) c (l.map (byteOf c)) = 0)

include hl

/-- Of an accumulator fed back after the final XOR, the final XOR is all that remains. -/
theorem fold_fedBack_xor (hc : c < 2 ^ bits) (xor : Nat) :
    fold bits refl (tabEntry bits poly refl) c (l.map (byteOf (c ^^^ xor))) =
      fold bits refl (tabEntry bits poly refl) 0 (l.map (byteOf xor)) := by
  have hbytes : byteOf (c ^^^ xor) = fun k => byteOf c k ^^^ byteOf xor k := funext (byteOf_xor c xor)
  have hsplit := fold_xor bits poly refl (byteOf c) (byteOf xor) c 0 l
  rwa [Nat.xor_zero, ← hbytes, hl c hc, Nat.zero_xor] at hsplit

theorem compute_residue (hinit : init < 2 ^ bits) (xor : Nat) (s : List Nat) :
    compute bits poly init xor refl (s ++ l.map (byteOf (compute bits poly init xor refl s))) =
      compute bits poly 0 0 refl (l.map (byteOf xor)) ^^^ xor := by
  simp only [compute, fold_append, fold_fedBack_xor hl (fold_lt poly refl s hinit), Nat.xor_zero]

theorem compute_check_zero (hinit : init < 2 ^ bits) (s : List Nat) :
    compute bits poly init 0 refl (s ++ l.map (byteOf (compute bits poly init 0 refl s))) = 0 := by
  rw [compute_residue hl hinit, compute, hl 0 (Nat.two_pow_pos bits), Nat.xor_zero, Nat.xor_zero]

end

/-! ### The obligations -/

/-- Settles O47: each part of an update is linear, and the bytes of the accumulator make the index 0. -/
theorem updateIsLinear : Obligations.UpdateIsLinear := by
  intro bits poly refl hv
  have hbits := (validBuild_iff.mp hv).1
  refine ⟨fun c c' b b' _ _ _ _ => update_xor bits poly refl c c' b b', update_zero bits poly refl,
    fun c hc => ⟨?_, ?_⟩⟩
  · rintro rfl
    exact ⟨update_nr_topByte (eight_le_of_validBits hbits) poly hc, beBytes_eq bits c ▸ fold_nr_fedBack hbits poly hc⟩
  · rintro rfl
    exact ⟨update_r_lowByte poly hc, fold_r_fedBack hbits poly hc⟩

/-- Settles O48: a fold of no byte is its accumulator, and every fold stays in the field. -/
theorem computeEmptyAndWidth : Obligations.ComputeEmptyAndWidth := by
  intro bits poly init xor refl hv
  obtain ⟨-, hinit, hxor⟩ := validConfig_iff.mp hv
  exact ⟨rfl, fun s _ => Nat.xor_lt_two_pow (fold_lt poly refl s hinit) hxor⟩

/-- Settles O50: the residue of the final XOR 0 is the accumulator 0 fed back. -/
theorem checkCrcGivesZero : Obligations.CheckCrcGivesZero := by
  intro bits poly init s hv _
  obtain ⟨hbuild, hinit, -⟩ := validConfig_iff.mp hv
  have hbits := (validBuild_iff.mp hbuild).1
  simp only [beBytes_eq, leBytes_eq]
  refine ⟨compute_check_zero (fun _ hc => fold_nr_fedBack hbits poly hc) hinit s,
    compute_check_zero (fun _ hc => fold_r_fedBack hbits poly hc) hinit s, ?_⟩
  rintro rfl
  rfl

/-- Settles O51: the spec's own numbers, by evaluation. -/
theorem checkCrcCounterexamples : Obligations.CheckCrcCounterexamples :=
  ⟨by decide, by decide, by decide, by decide, by decide⟩

/-- Settles O52: the accumulator fed back ends at 0, and by linearity the final XOR is what remains. -/
theorem checkCrcResidue : Obligations.CheckCrcResidue := by
  refine ⟨fun bits poly init xor s hv _ => ?_, by decide, by decide, by decide, by decide⟩
  obtain ⟨hbuild, hinit, -⟩ := validConfig_iff.mp hv
  have hbits := (validBuild_iff.mp hbuild).1
  simp only [beBytes_eq, leBytes_eq]
  exact ⟨compute_residue (fun _ hc => fold_nr_fedBack hbits poly hc) hinit xor s,
    compute_residue (fun _ hc => fold_r_fedBack hbits poly hc) hinit xor s⟩

/-- Settles O53: the folds are mirror images of each other, and reflection is linear. -/
theorem reflectionSymmetry : Obligations.ReflectionSymmetry := by
  intro bits poly init xor s hv hs
  obtain ⟨hbuild, hinit, hxor⟩ := validConfig_iff.mp hv
  rw [compute, compute, fold_r_eq_reflect (eight_le_of_validBuild hbuild) poly hs hinit, reflect_xor,
    reflect_reflect hxor]

end Sys2Proof.Machine
end

section
/-!
PROOFS. The engine's commands (43_crc_engine.md R178 to R181), by command word and as commands: MKENG in every state,
and START, BYTE and FINISH under the invariants, each from the components it reads.
-/

namespace Sys2Proof.Machine

variable {s : State} {bits : Byte} {poly a x : Word} {refl : Bit} {v : Word}

theorem validConfig_iff_mem {bits poly init xor : Nat} :
    validConfig bits poly init xor = true ↔
      bits ∈ [8, 16, 32, 64] ∧ poly < 2 ^ bits ∧ init < 2 ^ bits ∧ xor < 2 ^ bits := by
  rw [validConfig_iff, validBuild_iff_mem, and_assoc]

/-! ### A computation in progress -/

/-- A computation with the table built for `(bits, poly, refl)` is in progress, with `a` in `ACC` (10_state.md R29, R44
(e)): everything a BYTE reads. -/
structure Running (bits : Byte) (poly : Word) (refl : Bit) (a : Word) (s : State) : Prop where
  run : s.run = true
  tBits : s.tBits = some bits
  tPoly : s.tPoly = some poly
  tRefl : s.tRefl = some refl
  valid : validBuild bits.toNat poly.toNat = true
  table : s.table = buildTable bits.toNat poly.toNat refl
  acc : s.acc = some a
  acc_lt : a.toNat < 2 ^ bits.toNat

theorem State.Inv.running (h : s.Inv) (hr : s.run = true) : ∃ bits poly refl a, Running bits poly refl a s := by
  have ht := h.engine_needs_table (h.run_needs_engine hr)
  obtain ⟨bits, poly, refl, hbits, hpoly, hrefl, hv, htab⟩ := h.table_built ht
  obtain ⟨b, a, hb, hacc, hlt⟩ := h.acc_fits hr
  obtain rfl : b = bits := by simpa [hbits] using hb.symm
  exact ⟨b, poly, refl, a, hr, hbits, hpoly, hrefl, hv, htab, hacc, hlt⟩

/-! ### START, BYTE and FINISH from the components they read -/

theorem exec_start_of_engine (he : s.eValid = true) (ha : s.eInit = some a) :
    exec .start s = .next ((s.beginRun a).respond 0) := by
  simp only [exec, execStart, needsEngine, needs_of_set he, ha, withValue_some, complete_eq]

theorem exec_finish_of_run (hr : s.run = true) (ha : s.acc = some a) (hx : s.eXor = some x) :
    exec .finish s = .next (s.endRun.respond (a ^^^ x)) := by
  simp only [exec, execFinish, needsRun, needs_of_set hr, ha, hx, withValue_some, complete_eq]

/-- BYTE checks `RUN` first, then its operand (R180). -/
theorem exec_byte_of_run (hr : s.run = true) (v : Word) :
    exec (.byte v) s = if v.toNat > 255 then .next (s.reject .invalidByte) else foldByte v.toNat s :=
  needs_of_set hr _ _ _

/-- One update of `ACC` through the entry that the table holds. -/
theorem Running.exec_byte (h : Running bits poly refl a s) (hv : v.toNat < 256) :
    ∃ a', a'.toNat = update bits.toNat refl (tabEntry bits.toNat poly.toNat refl) a.toNat v.toNat ∧
      a'.toNat < 2 ^ bits.toNat ∧ exec (.byte v) s = .next ((s.setAcc a').respond 0) := by
  have hlegal := (validBuild_iff.mp h.valid).1
  obtain ⟨e, he, hentry⟩ := exists_tabRead_buildTable hlegal poly.toNat refl (updateIndex_lt refl h.acc_lt hv)
  rw [← h.table] at he
  have hlt := update_tabEntry_lt bits.toNat poly.toNat refl a.toNat v.toNat
  have hstored : (BitVec.ofNat 64 (updateNext bits.toNat refl a.toNat e.toNat)).toNat =
      update bits.toNat refl (tabEntry bits.toNat poly.toNat refl) a.toNat v.toNat := by
    rw [hentry, BitVec.toNat_ofNat]
    exact Nat.mod_eq_of_lt (hlt.trans_le (Nat.pow_le_pow_right (by decide) (le_64_of_validBits hlegal)))
  refine ⟨_, hstored, hstored ▸ hlt, ?_⟩
  rw [exec_byte_of_run h.run, if_neg (by omega)]
  simp only [foldByte, h.acc, h.tRefl, withWidth_of_legal h.tBits hlegal, withValue_some, he, complete_eq]

/-! ### The obligations -/

/-- Settles O24: `valid_config` of the staging values decides, and a built table answers the entries. -/
theorem makeEngineCommand : Obligations.MakeEngineCommand := by
  obtain ⟨-, -, hmkeng, -⟩ := decode_controlWord
  refine ⟨fun s v => runWord_takeN (hmkeng v) s, fun s hs => ?_, fun s hs => if_neg (mt validConfig_iff_mem.mp hs)⟩
  have hv := validConfig_iff_mem.mpr hs
  exact ⟨if_pos hv, fun d hd =>
    exists_tabRead_buildTable (validBuild_iff.mp (validConfig_iff.mp hv).1).1 _ _ hd⟩

/-- Settles O25: under the invariants an engine has an `E_INIT`. -/
theorem startCommand : Obligations.StartCommand := by
  obtain ⟨-, -, -, hstart, -⟩ := decode_controlWord
  refine ⟨fun s v => runWord_takeN (hstart v) s, fun s he => needs_of_clear he _ _ _, fun s h he => ?_⟩
  obtain ⟨i, hi⟩ := h.eInit_some he
  exact ⟨i, hi, exec_start_of_engine he hi⟩

/-- Settles O26: the two checks in their order, and under the invariants one update of the running computation. -/
theorem byteCommand : Obligations.ByteCommand := by
  obtain ⟨-, -, -, -, hbyte, -⟩ := decode_controlWord
  refine ⟨fun s v => runWord_takeV (hbyte v) s, fun s v hr => needs_of_clear hr _ _ _,
    fun s v hr hv => by rw [exec_byte_of_run hr, if_pos hv], fun s v h hr hv => ?_⟩
  obtain ⟨bits, poly, refl, a, hrun⟩ := h.running hr
  obtain ⟨a', hupdate, hlt, hexec⟩ := hrun.exec_byte (Nat.lt_succ_of_le hv)
  exact ⟨bits, poly, refl, a, a', hrun.tBits, hrun.tPoly, hrun.tRefl, hrun.acc, hupdate, hlt, hexec⟩

/-- Settles O27: under the invariants `ACC` and `E_XOR` both fit the width of the one table. -/
theorem finishCommand : Obligations.FinishCommand := by
  obtain ⟨-, -, -, -, -, hfinish, -⟩ := decode_controlWord
  refine ⟨fun s v => runWord_takeN (hfinish v) s, fun s hr => needs_of_clear hr _ _ _, fun s h hr => ?_⟩
  obtain ⟨bits, poly, refl, a, hrun⟩ := h.running hr
  obtain ⟨b, i, x, hb, -, hx, -, hxlt⟩ := h.engine_fits (h.run_needs_engine hr)
  obtain rfl : b = bits := by simpa [hrun.tBits] using hb.symm
  exact ⟨b, a, x, hb, hrun.acc, hx, by rw [BitVec.toNat_xor]; exact Nat.xor_lt_two_pow hrun.acc_lt hxlt,
    exec_finish_of_run hr hrun.acc hx⟩

end Sys2Proof.Machine
end

section
/-!
PROOFS. A computation by commands (43_crc_engine.md R182): an engine lasts until a BUILD or MKENG succeeds, and while a
computation runs on it, BYTE commands fold their bytes into `ACC` and the commands that may stand between them leave it.
-/

namespace Sys2Proof.Machine

variable {s t u : State} {i : Instr} {cw : CmdWord} {bits : Byte} {poly init xor a : Word} {refl : Bit}

theorem runWord_encode (i : Instr) (s : State) : runWord (encode i) s = exec i s := runWord_of_ok (decode_encode i) s

/-! ### An engine lasts -/

/-- A command with one condition and no data either responds with 0 or is rejected. -/
theorem rsps_of_ite {c : Prop} [Decidable c] {why : Reject} (hu : u.rsps = s.rsps)
    (h : (if c then complete 0 u else raise why s) = .next t) :
    t.rsps = s.rsps ++ [rspWord 0x00 0] ∨ ∃ why, t = s.reject why := by
  split at h
  · rw [complete_next] at h
    exact .inl (by rw [h, State.respond_rsps, hu])
  · rw [raise_next] at h
    exact .inr ⟨why, h⟩

theorem rsps_of_build_or_mkeng (hi : i = .build ∨ i = .mkeng) (h : exec i s = .next t) :
    t.rsps = s.rsps ++ [rspWord 0x00 0] ∨ ∃ why, t = s.reject why := by
  obtain rfl | rfl := hi
  · exact rsps_of_ite (u := s.buildFromStaging.endEngine.endRun) rfl h
  · exact rsps_of_ite (u := s.buildFromStaging.installEngine.endRun) rfl h

theorem HasEngine.reject (h : HasEngine bits poly init xor refl s) (why : Reject) :
    HasEngine bits poly init xor refl (s.reject why) := h

theorem Assigns.hasEngine (hu : Assigns s i u) (hi : ¬(i = .build ∨ i = .mkeng))
    (h : HasEngine bits poly init xor refl s) : HasEngine bits poly init xor refl u := by
  cases hu with
  | build => exact (hi (.inl rfl)).elim
  | mkeng => exact (hi (.inr rfl)).elim
  | _ => exact h

theorem exec_keeps_hasEngine (ht : exec i s = .next t)
    (hi : ¬((i = .build ∨ i = .mkeng) ∧ t.rsps = s.rsps ++ [rspWord 0x00 0]))
    (h : HasEngine bits poly init xor refl s) : HasEngine bits poly init xor refl t := by
  by_cases hbuilds : i = .build ∨ i = .mkeng
  · obtain hok | ⟨why, rfl⟩ := rsps_of_build_or_mkeng hbuilds ht
    · exact (hi ⟨hbuilds, hok⟩).elim
    · exact h.reject why
  · cases exec_ends ht with
    | rejected why => exact h.reject why
    | completed d hu => exact hu.hasEngine hbuilds h

theorem runWord_keeps_hasEngine (ht : runWord cw s = .next t)
    (hcw : ¬((decode cw = .ok .build ∨ decode cw = .ok .mkeng) ∧ t.rsps = s.rsps ++ [rspWord 0x00 0]))
    (h : HasEngine bits poly init xor refl s) : HasEngine bits poly init xor refl t := by
  cases hd : decode cw with
  | ok i =>
    rw [runWord_of_ok hd] at ht
    exact exec_keeps_hasEngine ht (by simpa [hd] using hcw) h
  | error e =>
    rw [runWord_of_error hd] at ht
    cases ht
    exact h.reject .illegalCmd

/-- A response of status OK is not that of a reject. -/
theorem State.reject_rsps_ne (s : State) (why : Reject) (d : Word) :
    (s.reject why).rsps ≠ s.rsps ++ [rspWord 0x00 d] := by
  intro h
  have hword : rspWord (rejectCode why) 0 = rspWord 0x00 d := by simpa using h
  exact rejectCode_ne_zero why (by simpa using congrArg rspStatus hword)

theorem hasEngine_of_mkeng (ht : exec .mkeng s = .next t) (hok : t.rsps = s.rsps ++ [rspWord 0x00 0]) :
    HasEngine s.pBits s.pPoly s.pInit s.pXor s.pRefl t := by
  cases exec_ends ht with
  | rejected why => exact (s.reject_rsps_ne why 0 hok).elim
  | completed d hu =>
    cases hu with
    | read hi => exact absurd hi (by decide)
    | mkeng hv => exact ⟨rfl, rfl, rfl, rfl, rfl, rfl, rfl, rfl, hv⟩

/-! ### A computation on the engine -/

/-- The engine exists and a computation on it is in progress, with `a` in `ACC`. -/
def Computing (bits : Byte) (poly init xor : Word) (refl : Bit) (a : Word) (s : State) : Prop :=
  HasEngine bits poly init xor refl s ∧ Running bits poly refl a s

theorem HasEngine.exec_start (h : HasEngine bits poly init xor refl s) :
    exec .start s = .next ((s.beginRun init).respond 0) ∧
      Computing bits poly init xor refl init ((s.beginRun init).respond 0) := by
  have hengine := h
  obtain ⟨-, he, hbits, hpoly, hrefl, hinit, -, htab, hvalid⟩ := h
  obtain ⟨hv, hlt, -⟩ := validConfig_iff.mp hvalid
  exact ⟨exec_start_of_engine he hinit, hengine, rfl, hbits, hpoly, hrefl, hv, htab, rfl, hlt⟩

/-- A BYTE command folds its byte and the computation goes on. -/
theorem Computing.exec_byte (h : Computing bits poly init xor refl a s) (b : Byte) :
    ∃ a', a'.toNat = update bits.toNat refl (tabEntry bits.toNat poly.toNat refl) a.toNat b.toNat ∧
      exec (.byte (b.setWidth 64)) s = .next ((s.setAcc a').respond 0) ∧
      Computing bits poly init xor refl a' ((s.setAcc a').respond 0) := by
  obtain ⟨hengine, hrun⟩ := h
  have hb : (b.setWidth 64).toNat = b.toNat := BitVec.toNat_setWidth_of_le (by decide)
  obtain ⟨a', hupdate, hlt, hexec⟩ := hrun.exec_byte (hb.trans_lt b.isLt)
  exact ⟨a', hb ▸ hupdate, hexec, hengine, { hrun with acc := rfl, acc_lt := hlt }⟩

/-- The commands that may stand between the bytes assign staging registers at most. -/
theorem Assigns.computing (hu : Assigns s i u) (hi : bystander i = true) (h : Computing bits poly init xor refl a s) :
    Computing bits poly init xor refl a u := by
  obtain ⟨hengine, hrun⟩ := h
  cases hu with
  | build | mkeng | start | byte | finish => simp [bystander, readsOnly, commandClass, opcode] at hi
  | _ => exact ⟨hengine, { hrun with }⟩

theorem Computing.reject (h : Computing bits poly init xor refl a s) (why : Reject) :
    Computing bits poly init xor refl a (s.reject why) := ⟨h.1, { h.2 with }⟩

theorem Computing.bystander (h : Computing bits poly init xor refl a s) (hi : bystander i = true)
    (ht : exec i s = .next t) : Computing bits poly init xor refl a t := by
  cases exec_ends ht with
  | rejected why => exact h.reject why
  | completed d hu =>
    obtain ⟨hengine, hrun⟩ := hu.computing hi h
    exact ⟨hengine, { hrun with }⟩

/-- What stands between the bytes does not change the fold. -/
theorem Interleaved.computing {bs : List Byte} (hseq : Interleaved bs s t) :
    ∀ {a : Word}, Computing bits poly init xor refl a s → ∃ a', Computing bits poly init xor refl a' t ∧
      a'.toNat = fold bits.toNat refl (tabEntry bits.toNat poly.toNat refl) a.toNat (bs.map BitVec.toNat) := by
  induction hseq with
  | done s => exact fun h => ⟨_, h, rfl⟩
  | byte b bs s t u hbyte _ ih =>
    intro a h
    obtain ⟨a', hupdate, hexec, hnext⟩ := h.exec_byte b
    obtain rfl : _ = t := by simpa [runWord_encode, hexec] using hbyte
    rw [List.map_cons, fold, ← hupdate]
    exact ih hnext
  | between i bs s t u hi hrun _ ih => exact fun h => ih (h.bystander hi (runWord_encode i s ▸ hrun))
  | rejected cw bs s t u hrej _ ih =>
    obtain ⟨why, rfl, -⟩ := hrej
    exact fun h => ih (h.reject why)

theorem Computing.exec_finish (h : Computing bits poly init xor refl a s) :
    exec .finish s = .next (s.endRun.respond (a ^^^ xor)) := by
  obtain ⟨⟨-, -, -, -, -, -, hxor, -⟩, hrun⟩ := h
  exact exec_finish_of_run hrun.run hrun.acc hxor

/-! ### The obligation -/

/-- Settles O49: MKENG's own inversion, the frame of an engine, and the fold by induction on the interleaving. -/
theorem commandSequenceComputes : Obligations.CommandSequenceComputes := by
  refine ⟨fun s t ht hok => hasEngine_of_mkeng (runWord_encode _ s ▸ ht) hok, fun bits poly init xor refl =>
    ⟨fun cw s t h ht hcw => runWord_keeps_hasEngine ht hcw h, fun s₀ h₀ => ?_⟩⟩
  obtain ⟨hstart, h₁⟩ := h₀.exec_start
  refine ⟨_, (runWord_encode _ _).trans hstart, rfl, fun bs s₂ hseq => ?_⟩
  obtain ⟨a, h₂, hfold⟩ := hseq.computing h₁
  refine ⟨⟨a, h₂.2.acc, hfold⟩, fun b => ?_, _, a ^^^ xor, (runWord_encode _ _).trans h₂.exec_finish, rfl, ?_⟩
  · obtain ⟨a', -, hbyte, -⟩ := h₂.exec_byte b
    exact ⟨_, (runWord_encode _ _).trans hbyte, rfl⟩
  · rw [BitVec.toNat_xor, hfold, compute]

end Sys2Proof.Machine
end

section
/-!
PROOFS. The read-back commands (44_readback.md R210 to R225): the words of class 0x2, the commands that complete in
every state, those that read under a flag, and that a command which only reads answers the same when it is given again.
-/

namespace Sys2Proof.Machine

variable {s t : State} {i : Instr} {k : Byte} {why : Reject} {α : Type}

/-- The fourteen words of class 0x2, each of the format without an operand (30_encoding.md R74). -/
theorem decode_readbackWord :
    (∀ v, decode (wordOf 0x20 v) = takeN v .rdbits) ∧ (∀ v, decode (wordOf 0x21 v) = takeN v .rdpoly) ∧
    (∀ v, decode (wordOf 0x22 v) = takeN v .rdinit) ∧ (∀ v, decode (wordOf 0x23 v) = takeN v .rdxor) ∧
    (∀ v, decode (wordOf 0x24 v) = takeN v .rdrefl) ∧ (∀ v, decode (wordOf 0x25 v) = takeN v .rdstat) ∧
    (∀ v, decode (wordOf 0x26 v) = takeN v .rdtbits) ∧ (∀ v, decode (wordOf 0x27 v) = takeN v .rdtpoly) ∧
    (∀ v, decode (wordOf 0x28 v) = takeN v .rdtrefl) ∧ (∀ v, decode (wordOf 0x29 v) = takeN v .rdeinit) ∧
    (∀ v, decode (wordOf 0x2A v) = takeN v .rdexor) ∧ (∀ v, decode (wordOf 0x2B v) = takeN v .rdmask) ∧
    (∀ v, decode (wordOf 0x2C v) = takeN v .rdshift) ∧ (∀ v, decode (wordOf 0x2D v) = takeN v .rdacc) := by
  simp [wordOf, decode, decodeReadback]

/-! ### The STATUS view -/

theorem flagBit_eq_toNat (b : Bool) : flagBit b = b.toNat := by cases b <;> rfl

theorem testBit_flagBit (b : Bool) (j : Nat) : (flagBit b).testBit j = (decide (j = 0) && b) := by
  rw [flagBit_eq_toNat, Nat.testBit_bool_toNat]

theorem testBit_flagBit_shiftLeft (b : Bool) (n j : Nat) :
    (flagBit b <<< n).testBit j = (decide (j = n) && b) := by
  have hj : j ≥ n ∧ j - n = 0 ↔ j = n := by omega
  rw [Nat.testBit_shiftLeft, testBit_flagBit, ← Bool.and_assoc, ← Bool.decide_and, decide_eq_decide.mpr hj]

/-- Each flag has one bit of the view, and `ERR` the bits from 8. -/
theorem getLsbD_statusView_eq_or (s : State) (j : Nat) :
    (statusView s).getLsbD j = (decide (j < 64) &&
      (decide (j = 0) && s.tValid || decide (j = 1) && s.eValid || decide (j = 2) && s.run ||
        decide (8 ≤ j) && s.err.getLsbD (j - 8))) := by
  rw [statusView, BitVec.getLsbD_ofNat, Nat.testBit_or, Nat.testBit_or, Nat.testBit_or, testBit_flagBit,
    testBit_flagBit_shiftLeft, testBit_flagBit_shiftLeft, Nat.testBit_shiftLeft, BitVec.testBit_toNat]

/-- The fields of the view do not meet, and `ERR` ends at bit 15. -/
theorem getLsbD_statusView (s : State) (j : Nat) :
    (statusView s).getLsbD j =
      if j = 0 then s.tValid
      else if j = 1 then s.eValid
      else if j = 2 then s.run
      else if j < 8 then false
      else if j < 16 then s.err.getLsbD (j - 8)
      else false := by
  rw [getLsbD_statusView_eq_or]
  split_ifs with h0 h1 h2 h8 h16
  · simp [h0]
  · simp [h1]
  · simp [h2]
  · simp [h0, h1, h2, h8]
  · simp [h0, h1, h2, show 8 ≤ j by omega, show j < 64 by omega]
  · simp [h0, h1, h2, s.err.getLsbD_of_ge (j - 8) (by omega)]

/-- `ERR` stands above bits 2:0, so these hold the three flags. -/
theorem statusView_toNat_mod_eight (s : State) :
    (statusView s).toNat % 8 = flagBit s.tValid + 2 * flagBit s.eValid + 4 * flagBit s.run := by
  have herr : s.err.toNat <<< 8 % 2 ^ 3 = 0 := by rw [Nat.shiftLeft_eq]; omega
  rw [statusView, BitVec.toNat_ofNat, Nat.mod_mod_of_dvd _ (by decide)]
  change _ % 2 ^ 3 = _
  rw [Nat.or_mod_two_pow, herr]
  cases s.tValid <;> cases s.eValid <;> cases s.run <;> rfl

/-- R44 (a) and (b): of the eight settings of the three flags, four are left. -/
theorem State.Inv.flags_cases (h : s.Inv) :
    (s.tValid = false ∧ s.eValid = false ∧ s.run = false) ∨ (s.tValid = true ∧ s.eValid = false ∧ s.run = false) ∨
    (s.tValid = true ∧ s.eValid = true ∧ s.run = false) ∨ (s.tValid = true ∧ s.eValid = true ∧ s.run = true) := by
  have hE := h.run_needs_engine
  have hT := h.engine_needs_table
  revert hE hT
  cases s.tValid <;> cases s.eValid <;> cases s.run <;> decide

/-! ### A read under a flag -/

/-- A command without an operand and with a state precondition, by what it answers once let through. -/
theorem readsUnder_of_needs {flag : State → Bool} {go : State → Host.Outcome State Fault Refusal}
    {data : State → Word → Prop} (hword : ∀ v, decode (wordOf k v) = takeN v i)
    (hexec : ∀ s, exec i s = needs (flag s) why s (go s))
    (hgo : ∀ s : State, s.Inv → flag s = true → ∃ d, data s d ∧ go s = .next (s.answered d)) :
    ReadsUnder k i flag why data := by
  refine fun s h => ⟨fun v hv => ?_, runWord_takeN (hword 0) s, fun hflag => ?_, fun hflag => ?_⟩
  · rw [runWord_takeN (hword v), if_neg hv]
  · rw [hexec, needs_of_clear hflag]
  · rw [hexec, needs_of_set hflag]
    exact hgo s h hflag

/-- A read of a component that has a value while its flag is set. -/
theorem readsUnder_of_value {flag : State → Bool} {r : State → Option α} {what : Guarded} {f : α → Word}
    {data : State → Word → Prop} (hword : ∀ v, decode (wordOf k v) = takeN v i)
    (hexec : ∀ s, exec i s = needs (flag s) why s (withValue (r s) what fun a => complete (f a) s))
    (hr : ∀ s : State, s.Inv → flag s = true → ∃ a, r s = some a ∧ data s (f a)) :
    ReadsUnder k i flag why data := by
  refine readsUnder_of_needs hword hexec fun s h hflag => ?_
  obtain ⟨a, ha, hdata⟩ := hr s h hflag
  exact ⟨f a, hdata, by rw [ha]; rfl⟩

/-- A read of a view of the width, which is legal while a table is built. -/
theorem readsUnder_of_width {view : Nat → Word} {data : State → Word → Prop}
    (hword : ∀ v, decode (wordOf k v) = takeN v i)
    (hexec : ∀ s, exec i s = needsTable s (withWidth s fun bits => complete (view bits) s))
    (hview : ∀ (s : State) (b : Byte), s.tBits = some b → validBits b.toNat = true → data s (view b.toNat)) :
    ReadsUnder k i (·.tValid) .tableNotBuilt data := by
  refine readsUnder_of_needs hword hexec fun s h ht => ?_
  obtain ⟨b, hb, hv⟩ := h.tBits_some ht
  exact ⟨view b.toNat, hview s b hb hv, withWidth_of_legal hb hv _⟩

theorem byte_cases_of_validBits {b : Byte} (h : validBits b.toNat = true) : b = 8 ∨ b = 16 ∨ b = 32 ∨ b = 64 := by
  simpa [validBits_iff, ← BitVec.toNat_inj] using h

/-! ### A read given twice -/

/-- `i` in `s` leaves `t`, where only the answer is new, and `i` answers the same again. -/
def AnswersAgain (i : Instr) (s t : State) : Prop :=
  (∃ d, t = s.answered d ∧ exec i t = .next (t.answered d)) ∨
    (∃ why, t = s.reject why ∧ exec i t = .next (t.reject why))

/-- A read that completes in every state, of data that does not depend on the responses given. -/
theorem answersAgain_of_complete {data : State → Word} (hexec : ∀ s, exec i s = complete (data s) s)
    (hdata : ∀ s d, data (s.answered d) = data s) (h : exec i s = .next t) : AnswersAgain i s t := by
  rw [hexec, complete_next] at h
  subst h
  exact .inl ⟨data s, rfl, (hexec _).trans (congrArg (complete · _) (hdata s _))⟩

/-- A reject does not change the flag it is for, and a read that is let through is let through again. -/
theorem answersAgain_of_needs {flag : State → Bool} {go : State → Host.Outcome State Fault Refusal}
    (hexec : ∀ s, exec i s = needs (flag s) why s (go s))
    (hrej : ∀ s, flag (s.reject why) = flag s) (hans : ∀ s d, flag (s.answered d) = flag s)
    (hgo : go s = .next t → ∃ d, t = s.answered d ∧ go t = .next (t.answered d))
    (h : exec i s = .next t) : AnswersAgain i s t := by
  obtain ⟨hflag, hnext⟩ | ⟨hflag, rfl⟩ := needs_next.mp (hexec s ▸ h)
  · obtain ⟨d, rfl, hagain⟩ := hgo hnext
    exact .inl ⟨d, rfl, by rw [hexec, needs_of_set ((hans s d).trans hflag), hagain]⟩
  · exact .inr ⟨why, rfl, by rw [hexec, needs_of_clear ((hrej s).trans hflag)]⟩

theorem answersAgain_of_value {flag : State → Bool} {r : State → Option α} {what : Guarded} {f : α → Word}
    (hexec : ∀ s, exec i s = needs (flag s) why s (withValue (r s) what fun a => complete (f a) s))
    (hrej : ∀ s, flag (s.reject why) = flag s) (hans : ∀ s d, flag (s.answered d) = flag s)
    (hr : ∀ s d, r (s.answered d) = r s) (h : exec i s = .next t) : AnswersAgain i s t := by
  refine answersAgain_of_needs hexec hrej hans (fun hgo => ?_) h
  obtain ⟨a, ha, hnext⟩ := withValue_next.mp hgo
  obtain rfl := (complete_next _).mp hnext
  exact ⟨f a, rfl, withValue_next.mpr ⟨a, (hr s _).trans ha, rfl⟩⟩

theorem answersAgain_of_width {view : Nat → Word}
    (hexec : ∀ s, exec i s = needsTable s (withWidth s fun bits => complete (view bits) s))
    (h : exec i s = .next t) : AnswersAgain i s t := by
  refine answersAgain_of_needs hexec (fun _ => rfl) (fun _ _ => rfl) (fun hgo => ?_) h
  obtain ⟨b, hb, hv, hnext⟩ := withWidth_next.mp hgo
  obtain rfl := (complete_next _).mp hnext
  exact ⟨view b.toNat, rfl, withWidth_next.mpr ⟨b, hb, hv, rfl⟩⟩

/-! ### The obligations -/

/-- Settles O16: the words are of the format without an operand, and the commands complete by their own meaning. -/
theorem nopAndStagingReads : Obligations.NopAndStagingReads := by
  obtain ⟨hnop, -⟩ := decode_controlWord
  obtain ⟨hbits, hpoly, hinit, hxor, hrefl, -⟩ := decode_readbackWord
  exact ⟨fun s v => ⟨runWord_takeN (hnop v) s, runWord_takeN (hbits v) s, runWord_takeN (hpoly v) s,
    runWord_takeN (hinit v) s, runWord_takeN (hxor v) s, runWord_takeN (hrefl v) s⟩,
    fun _ => ⟨rfl, rfl, rfl, rfl, rfl, rfl⟩⟩

/-- Settles O17: the STATUS view bit by bit, and the settings of the flags that the invariants leave. -/
theorem statusRead : Obligations.StatusRead := by
  obtain ⟨-, -, -, -, -, hstat, -⟩ := decode_readbackWord
  refine ⟨fun s v => runWord_takeN (hstat v) s, fun s => ⟨statusView s, rfl, getLsbD_statusView s, fun h => ?_⟩⟩
  rw [statusView_toNat_mod_eight]
  obtain ⟨hT, hE, hR⟩ | ⟨hT, hE, hR⟩ | ⟨hT, hE, hR⟩ | ⟨hT, hE, hR⟩ := h.flags_cases <;> simp [hT, hE, hR, flagBit]

/-- Settles O18: while a table is built its tag has values, and the width is legal. -/
theorem tagReads : Obligations.TagReads := by
  obtain ⟨-, -, -, -, -, -, hbits, hpoly, hrefl, -⟩ := decode_readbackWord
  refine ⟨readsUnder_of_value hbits (fun _ => rfl) fun s h ht => ?_,
    readsUnder_of_value hpoly (fun _ => rfl) fun s h ht => ?_,
    readsUnder_of_value hrefl (fun _ => rfl) fun s h ht => ?_⟩
  · obtain ⟨b, hb, hv⟩ := h.tBits_some ht
    refine ⟨b, hb, b, hb, rfl, ?_⟩
    obtain rfl | rfl | rfl | rfl := byte_cases_of_validBits hv <;> decide
  · exact (h.tPoly_some ht).imp fun p hp => ⟨hp, hp⟩
  · exact (h.tRefl_some ht).imp fun f hf => ⟨hf, f, hf, rfl⟩

/-- Settles O19: the views at the four legal widths. -/
theorem viewReads : Obligations.ViewReads := by
  obtain ⟨-, -, -, -, -, -, -, -, -, -, -, hmask, hshift, -⟩ := decode_readbackWord
  refine ⟨readsUnder_of_width hmask (fun _ => rfl) fun s b hb hv => ⟨b, hb, ?_⟩,
    readsUnder_of_width hshift (fun _ => rfl) fun s b hb hv => ⟨b, hb, ?_⟩⟩
  · obtain rfl | rfl | rfl | rfl := byte_cases_of_validBits hv <;> decide
  · obtain rfl | rfl | rfl | rfl := byte_cases_of_validBits hv <;> decide

/-- Settles O20: while an engine exists its registers have values. -/
theorem engineReads : Obligations.EngineReads := by
  obtain ⟨-, -, -, -, -, -, -, -, -, hinit, hxor, -⟩ := decode_readbackWord
  exact ⟨readsUnder_of_value hinit (fun _ => rfl) fun s h he => (h.eInit_some he).imp fun a ha => ⟨ha, ha⟩,
    readsUnder_of_value hxor (fun _ => rfl) fun s h he => (h.eXor_some he).imp fun x hx => ⟨hx, hx⟩⟩

/-- Settles O21: while a computation is in progress the accumulator has a value. -/
theorem accumulatorRead : Obligations.AccumulatorRead := by
  obtain ⟨-, -, -, -, -, -, -, -, -, -, -, -, -, hacc⟩ := decode_readbackWord
  exact readsUnder_of_value hacc (fun _ => rfl) fun s h hr => (h.acc_some hr).imp fun a ha => ⟨ha, ha⟩

/-- Settles O34: a command that only reads has one of three shapes, and what it reads its own answer does not change. -/
theorem readsChangeNothing : Obligations.ReadsChangeNothing := by
  intro i s t hi h
  cases i with
  | nop | rdbits | rdpoly | rdinit | rdxor | rdrefl | rdstat =>
    exact answersAgain_of_complete (fun _ => rfl) (fun _ _ => rfl) h
  | rdtab | rdtbits | rdtpoly | rdtrefl | rdeinit | rdexor | rdacc =>
    exact answersAgain_of_value (fun _ => rfl) (fun _ => rfl) (fun _ _ => rfl) (fun _ _ => rfl) h
  | rdmask | rdshift => exact answersAgain_of_width (fun _ => rfl) h
  | build | mkeng | start | byte | finish | wrbits | wrpoly | wrinit | wrxor | wrrefl =>
    simp [readsOnly, commandClass, opcode] at hi

end Sys2Proof.Machine
end

section
/-!
PROOFS. The reject (60_exceptions.md R240 to R249): which words are answered with ILLEGAL_CMD, what a rejected command
changes, and that two states which differ in `ERR` alone are answered alike.
-/

namespace Sys2Proof.Machine

variable {s t : State} {i : Instr} {r : OpcodeRow} {why : Reject} {α : Type}
  {go go' x : Host.Outcome State Fault Refusal}

/-! ### ILLEGAL_CMD (R242) -/

theorem rejectCode_eq_one_iff : rejectCode why = 0x01 ↔ why = .illegalCmd := by cases why <;> decide

/-- Equal lists of responses end in responses of equal status. -/
theorem status_eq_of_append_eq {l : List RspWord} {k k' : Byte} {d d' : Word}
    (h : l ++ [rspWord k d] = l ++ [rspWord k' d']) : k = k' := by
  have hword : rspWord k d = rspWord k' d' := by simpa using h
  simpa using congrArg rspStatus hword

/-- A command that decoded answers OK or the code of another reject, never ILLEGAL_CMD. -/
theorem Ends.rsps_ne_illegalCmd (ht : Ends s i t) (d : Word) : t.rsps ≠ s.rsps ++ [rspWord 0x01 d] := by
  intro h
  cases ht with
  | rejected why hwhy => exact hwhy (rejectCode_eq_one_iff.mp (status_eq_of_append_eq h))
  | completed d' hu =>
    rw [State.respond_rsps, hu.rsps_eq] at h
    exact absurd (status_eq_of_append_eq h) (by decide)

/-- No other row spells a word with this row's opcode, so the row's format decides. -/
theorem wellFormed_wordOf_eq (hr : r ∈ opcodeRows) (v : Word) :
    WellFormed (wordOf r.opcode v) = r.format.fits v.toNat := by
  refine Bool.eq_iff_iff.mpr ⟨fun h => ?_, wellFormed_wordOf hr⟩
  obtain ⟨q, hq, hk, hfits⟩ := (wellFormed_iff _).mp h
  rw [wordOf, opcodeOf_append] at hk
  rw [wordOf, operandOf_append] at hfits
  rwa [← eq_of_opcode_eq q hq r hr hk]

/-- The format V fixes no operand bit; each of the others refuses the operand of all ones. -/
theorem exists_fits_eq_false_iff (f : Format) : (∃ v : Word, f.fits v.toNat = false) ↔ f ≠ .V := by
  cases f with
  | V => simpa using fun v : Word => (Format.fits_iff .V _).mpr v.isLt
  | N | B | F => exact iff_of_true ⟨BitVec.allOnes 64, by decide⟩ (by decide)

/-! ### States that differ in `ERR` alone (R249) -/

/-- Both end in the same fault, or in next states that differ at most in `ERR`. -/
inductive SameButErr : Host.Outcome State Fault Refusal → Host.Outcome State Fault Refusal → Prop
  | next {t : State} (e : Byte) : SameButErr (.next t) (.next { t with err := e })
  | fault (r : Fault) : SameButErr (.fault r) (.fault r)

theorem SameButErr.of_next (h : SameButErr (.next t) x) : ∃ e, x = .next { t with err := e } := by
  cases h with
  | next e => exact ⟨e, rfl⟩

theorem SameButErr.of_fault {r : Fault} (h : SameButErr (.fault r) x) : x = .fault r := by
  cases h with
  | fault => rfl

/-- A precondition of the same flag: a reject writes `ERR` and reads nothing else. -/
theorem needs_sameButErr {flag : Bool} (e : Byte) (h : SameButErr go go') :
    SameButErr (needs flag why s go) (needs flag why { s with err := e } go') := by
  cases flag with
  | false => exact .next _
  | true => exact h

theorem withValue_sameButErr {r : Option α} {what : Guarded} {go go' : α → Host.Outcome State Fault Refusal}
    (h : ∀ a, SameButErr (go a) (go' a)) : SameButErr (withValue r what go) (withValue r what go') := by
  cases r with
  | none => exact .fault _
  | some a => exact h a

theorem withWidth_sameButErr {go go' : Nat → Host.Outcome State Fault Refusal} (e : Byte)
    (h : ∀ bits, SameButErr (go bits) (go' bits)) :
    SameButErr (withWidth s go) (withWidth { s with err := e } go') := by
  refine withValue_sameButErr fun b => ?_
  split
  · exact h b.toNat
  · exact .fault _

theorem needsByte_sameButErr {v : Nat} (e : Byte) (h : SameButErr go go') :
    SameButErr (needsByte v s go) (needsByte v { s with err := e } go') := by
  unfold needsByte
  split
  · exact .next _
  · exact h

theorem foldByte_sameButErr (v : Nat) (s : State) (e : Byte) :
    SameButErr (foldByte v s) (foldByte v { s with err := e }) :=
  withValue_sameButErr fun _ => withWidth_sameButErr e fun _ => withValue_sameButErr fun _ =>
    withValue_sameButErr fun _ => .next e

/-- RDSTAT alone reads `ERR`. -/
theorem exec_sameButErr (hi : i ≠ .rdstat) (s : State) (e : Byte) :
    SameButErr (exec i s) (exec i { s with err := e }) := by
  cases i with
  | rdstat => exact absurd rfl hi
  | nop | wrbits | wrpoly | wrinit | wrxor | wrrefl => exact .next e
  | rdbits | rdpoly | rdinit | rdxor | rdrefl => exact .next e
  | build | mkeng => exact needs_sameButErr e (.next e)
  | byte v => exact needs_sameButErr e (needsByte_sameButErr e (foldByte_sameButErr v.toNat s e))
  | finish => exact needs_sameButErr e (withValue_sameButErr fun _ => withValue_sameButErr fun _ => .next e)
  | start | rdtab | rdtbits | rdtpoly | rdtrefl | rdeinit | rdexor | rdacc =>
    exact needs_sameButErr e (withValue_sameButErr fun _ => .next e)
  | rdmask | rdshift => exact needs_sameButErr e (withWidth_sameButErr e fun _ => .next e)

/-! ### The obligations -/

/-- Settles O10: an illegal word does not decode, a decoded command is rejected for another cause only, and of the
formats V alone lets every operand through. -/
theorem illegalDependsOnTheWordAlone : Obligations.IllegalDependsOnTheWordAlone := by
  refine ⟨fun cw hcw s => ?_, fun i s t ht d => (exec_ends ht).rsps_ne_illegalCmd d, fun r hr => ?_⟩
  · obtain ⟨e, he⟩ := (decodeIsTheOpcodeMap cw).2 hcw
    exact runWord_of_error he s
  · simp only [wellFormed_wordOf_eq hr]
    exact exists_fits_eq_false_iff r.format

/-- Settles O28: the two ways a decoded command ends. -/
theorem rejectChangesOnlyErr : Obligations.RejectChangesOnlyErr := by
  refine ⟨fun why s => rfl, fun i s t ht => ?_⟩
  cases exec_ends ht with
  | rejected why hwhy => exact .inr ⟨why, hwhy, rfl⟩
  | completed d hu => exact .inl ⟨hu.err_eq, d, by rw [State.respond_rsps, hu.rsps_eq]⟩

/-- Settles O30: RDSTAT completes in every state, and no other command reads `ERR`. -/
theorem errInfluencesNothing : Obligations.ErrInfluencesNothing := by
  intro i s e
  by_cases hi : i = .rdstat
  · subst hi
    refine ⟨fun t ht => ?_, fun r hr => nomatch hr⟩
    obtain rfl := (complete_next _).mp ht
    exact ⟨_, rfl, rfl, fun hne => absurd rfl hne⟩
  · have hsame := exec_sameButErr hi s e
    refine ⟨fun t ht => ?_, fun r hr => (hr ▸ hsame).of_fault⟩
    obtain ⟨e', hu⟩ := (ht ▸ hsame).of_next
    exact ⟨_, hu, rfl, fun _ => rfl⟩

end Sys2Proof.Machine
end

section
/-!
PROOFS. Reset (70_reset_and_hazards.md R270) as an input of the unit and as a pin of its port, and the idle unit
(60_exceptions.md R258).
-/

namespace Sys2Proof.Machine

variable {s : State} {p : Pins}

/-! ### The unit -/

theorem step_rst {rest : List Input} (h : s.inputs = .rst :: rest) :
    step s = .next (s.setInputs rest).applyReset := advance_rst h

theorem step_idle (h : s.inputs = []) : step s = .next s := advance_idle h

/-! ### The port while `rst = 1` -/

theorem cmdReady_rst (hp : p.rst = true) (c : Clocked) : cmdReady c p = false := by
  simp [cmdReady, hp]

/-- Also in the cycle in which the response of a command in progress would be valid. -/
theorem rspValid_rst (hp : p.rst = true) (c : Clocked) : rspValid c p = false := by
  obtain ⟨u, phase⟩ := c
  match phase with
  | .ready => rfl
  | .busy cw 0 => simp [rspValid, hp]
  | .busy cw (left + 1) => rfl

theorem tick_rst (hp : p.rst = true) (c : Clocked) : tick p c = .next ⟨c.unit.applyReset, .ready⟩ := by
  simp [tick, hp]

/-! ### The obligations -/

/-- Settles O6: the step of each of the two inputs; `applyReset` keeps the inputs to come and the responses given. -/
theorem resetInputAndIdle : Obligations.ResetInputAndIdle :=
  ⟨fun _ _ hin => step_rst hin, fun _ hin => step_idle hin⟩

/-- Settles O56: the two outputs and the edge, each for every phase of the port. -/
theorem resetAbandonsCommand : Obligations.ResetAbandonsCommand :=
  fun c _ hp => ⟨cmdReady_rst hp c, rspValid_rst hp c, tick_rst hp c⟩

end Sys2Proof.Machine
end

section
/-!
PROOFS. The known-answer vectors of the source (95_test_vectors.md section 1.1): closed instances of `compute` (R177).
At width 8 the accumulator is the next table index unmasked (R170), so that an evaluation of nine bytes at once nests
too deep; it goes by the accumulators after the fourth and the eighth byte, which are those of the spec's traces
(95_test_vectors.md section 2.4).
-/

namespace Sys2Proof.Machine

variable {bits poly init xor c : Nat} {refl : Bit} {s : List Nat}

/-- The computation goes on from the accumulator that the first part of its input leaves. -/
theorem compute_append_of_fold (h : fold bits refl (tabEntry bits poly refl) init s = c) (t : List Nat) :
    compute bits poly init xor refl (s ++ t) = compute bits poly c xor refl t := by
  rw [compute, compute, fold_append, h]

/-- K1. -/
theorem compute_crc8 : compute 8 0x07 0x00 0x00 0 [0x31, 0x32, 0x33, 0x34, 0x35, 0x36, 0x37, 0x38, 0x39] = 0xF4 := by
  have h1234 : fold 8 0 (tabEntry 8 0x07 0) 0x00 [0x31, 0x32, 0x33, 0x34] = 0xC2 := by decide
  have h5678 : fold 8 0 (tabEntry 8 0x07 0) 0xC2 [0x35, 0x36, 0x37, 0x38] = 0xC7 := by decide
  calc compute 8 0x07 0x00 0x00 0 [0x31, 0x32, 0x33, 0x34, 0x35, 0x36, 0x37, 0x38, 0x39]
    _ = compute 8 0x07 0xC2 0x00 0 [0x35, 0x36, 0x37, 0x38, 0x39] := compute_append_of_fold h1234 _
    _ = compute 8 0x07 0xC7 0x00 0 [0x39] := compute_append_of_fold h5678 _
    _ = 0xF4 := by decide

/-- K2. -/
theorem compute_crc8Rohc :
    compute 8 0x07 0xFF 0x00 1 [0x31, 0x32, 0x33, 0x34, 0x35, 0x36, 0x37, 0x38, 0x39] = 0xD0 := by
  have h1234 : fold 8 1 (tabEntry 8 0x07 1) 0xFF [0x31, 0x32, 0x33, 0x34] = 0x85 := by decide
  have h5678 : fold 8 1 (tabEntry 8 0x07 1) 0x85 [0x35, 0x36, 0x37, 0x38] = 0x54 := by decide
  calc compute 8 0x07 0xFF 0x00 1 [0x31, 0x32, 0x33, 0x34, 0x35, 0x36, 0x37, 0x38, 0x39]
    _ = compute 8 0x07 0x85 0x00 1 [0x35, 0x36, 0x37, 0x38, 0x39] := compute_append_of_fold h1234 _
    _ = compute 8 0x07 0x54 0x00 1 [0x39] := compute_append_of_fold h5678 _
    _ = 0xD0 := by decide

/-- Settles O54: K1 and K2 by their traces, K3 to K8 by evaluation; K9 is the first value of O51. -/
theorem knownAnswerVectors : Obligations.KnownAnswerVectors := by
  obtain ⟨hK9, -⟩ := checkCrcCounterexamples
  exact ⟨compute_crc8, compute_crc8Rohc, by decide, by decide, by decide, by decide, by decide, by decide, hK9⟩

end Sys2Proof.Machine
end
